-- ==== Sys2Proof/Word.lean ====
section
/-! DEFINITION. The two word widths of the machine (spec/00_scope.md R4, R5): 8-bit data, 16-bit addresses. -/

namespace Sys2Proof

/-- An 8-bit value: a register, a memory cell, a port number, an opcode byte (R4 "data width"). -/
abbrev Byte := BitVec 8

/-- A 16-bit value: SP, PC, a register pair, a memory address (R4 "address width"). Its arithmetic is mod 2^16, which is the
spec's rule for every address computation (92_eei_decisions.md D4). -/
abbrev Word := BitVec 16

end Sys2Proof
end

