-- ==== Sys2Proof/Config.lean ====
section
/-! DEFINITION. The parameters of 00_scope.md R4 that are fixed for a machine. `ROM_WINDOW` is not here: the host sets it at run
time, so it is the field `rom` of State (92_eei_decisions.md D2). `CYCLES` is the table of Machine/Cycles.lean (D19). -/

namespace Sys2Proof

/-- `UNDOC_AS_NOP` (R4, R86): whether the five undocumented opcodes 0xCB, 0xD9, 0xDD, 0xED, 0xFD are one-byte NOPs. The spec
decides false, the alias behaviour (92_eei_decisions.md D12, 90_conflicts.md C8). Log entry 2. -/
def Config.undocAsNop : Bool := false

/-- `HALT_IDLE_CYCLES` (R4, R103): the count an idle halted step reports. The spec leaves it OPEN (92_eei_decisions.md D8), so
it has no body here: no proof can see its value. Log entry 3. -/
opaque Config.haltIdleCycles : BitVec 32

end Sys2Proof
end

