-- ==== Sys2Proof/Machine/Bytes.lean ====
section
/-! DEFINITION. How two bytes make a word and a word is cut into bytes. -/

namespace Sys2Proof.Machine

/-- `hi || lo` (00_scope.md R5): the 16-bit value 256*hi + lo. A register pair is `joinBytes` of its first-named and its second
register (10_state.md R14). -/
def joinBytes (hi lo : Byte) : Word := hi ++ lo

/-- `v[15:8]`. -/
def hiByte (v : Word) : Byte := v.extractLsb' 8 8

/-- `v[7:0]`. -/
def loByte (v : Word) : Byte := v.extractLsb' 0 8

end Sys2Proof.Machine
end

