-- ==== Sys2Proof/Syntax.lean ====
section
/-! DEFINITION. The instructions of spec/opcode_table.json as syntax: one constructor for each of its 78 mnemonics, and separate
constructors for its twelve undocumented rows, which have rules of their own (R219, R220, R221, R257). -/

namespace Sys2Proof

/-- The 3-bit operand code (10_state.md R11): seven registers, and `m` for code 6, the memory byte at HL (R12). -/
inductive R8 where
  | b | c | d | e | h | l | m | a
  deriving DecidableEq, Repr

/-- The 2-bit pair code of LXI, DAD, INX and DCX (R15): code 3 is SP. -/
inductive RP where
  | bc | de | hl | sp
  deriving DecidableEq, Repr

/-- The 2-bit pair code of PUSH and POP (R15, R73): code 3 is PSW. -/
inductive StackRP where
  | bc | de | hl | psw
  deriving DecidableEq, Repr

/-- The 1-bit pair code of LDAX and STAX (R71, format RPX). -/
inductive IndexRP where
  | bc | de
  deriving DecidableEq, Repr

/-- The eight conditions (R74, R190). -/
inductive Cond where
  | nz | z | nc | c | po | pe | p | m
  deriving DecidableEq, Repr

/-- One decoded instruction. `imm`, `addr` and `port` are the operand bytes as R75 assembles them. -/
inductive Instr where
  -- data movement (41_data_movement.md)
  | mov (dst src : R8)
  | mvi (dst : R8) (imm : Byte)
  | lxi (rp : RP) (imm : Word)
  | lda (addr : Word)
  | sta (addr : Word)
  | ldax (rp : IndexRP)
  | stax (rp : IndexRP)
  | lhld (addr : Word)
  | shld (addr : Word)
  | xchg
  | xthl
  | sphl
  | pchl
  -- arithmetic and logic (42_arithmetic_logic.md)
  | add (r : R8)
  | adi (imm : Byte)
  | adc (r : R8)
  | aci (imm : Byte)
  | sub (r : R8)
  | sui (imm : Byte)
  | sbb (r : R8)
  | sbi (imm : Byte)
  | ana (r : R8)
  | ani (imm : Byte)
  | xra (r : R8)
  | xri (imm : Byte)
  | ora (r : R8)
  | ori (imm : Byte)
  | cmp (r : R8)
  | cpi (imm : Byte)
  | inr (dst : R8)
  | dcr (dst : R8)
  | dad (rp : RP)
  | inx (rp : RP)
  | dcx (rp : RP)
  | daa
  -- rotates (43_rotates.md)
  | rlc
  | rrc
  | ral
  | rar
  -- control flow (44_control_flow.md)
  | jmp (addr : Word)
  | jnz (addr : Word)
  | jz (addr : Word)
  | jnc (addr : Word)
  | jc (addr : Word)
  | jpo (addr : Word)
  | jpe (addr : Word)
  | jp (addr : Word)
  | jm (addr : Word)
  | call (addr : Word)
  | cnz (addr : Word)
  | cz (addr : Word)
  | cnc (addr : Word)
  | cc (addr : Word)
  | cpo (addr : Word)
  | cpe (addr : Word)
  | cp (addr : Word)
  | cm (addr : Word)
  | ret
  | rnz
  | rz
  | rnc
  | rc
  | rpo
  | rpe
  | rp
  | rm
  | rst (n : BitVec 3)
  -- stack (45_stack.md)
  | push (rp : StackRP)
  | pop (rp : StackRP)
  -- port I/O (46_io.md); Lean keeps the word `in` for itself, hence the two names
  | inp (port : Byte)
  | outp (port : Byte)
  -- miscellaneous (47_misc.md)
  | nop
  | hlt
  | ei
  | di
  | cma
  | stc
  | cmc
  -- the twelve undocumented opcodes (R85, R86)
  /-- 0x08, 0x10, ..., 0x38: `00kkk000`, `k` not 0 (R257). -/
  | nopUndoc (k : BitVec 3)
  /-- 0xCB (R219). -/
  | jmpUndoc (addr : Word)
  /-- 0xD9 (R220). -/
  | retUndoc
  /-- 0xDD, 0xED, 0xFD: `11kk1101`, `k` not 0 (R221). -/
  | callUndoc (k : BitVec 2) (addr : Word)
  deriving DecidableEq, Repr

end Sys2Proof
end

