-- ==== Sys2Proof/WellFormed.lean ====
section
/-! DEFINITION. Which terms of Instr an opcode byte can encode. -/

namespace Sys2Proof

/-- An instruction is well formed when the opcode map has a byte for it. There is no MOV M,M: its place is HLT (30_encoding.md
R78). The undocumented NOPs are `00kkk000` with `k` not 0, since 0x00 is NOP (R77, R85). The undocumented calls are `11kk1101`
with `k` not 0, since 0xCD is CALL (R80, R85). Every other operand value is legal (R84). -/
def Instr.wellFormed : Instr → Bool
  | .mov dst src => !(dst == .m && src == .m)
  | .nopUndoc k => k != 0
  | .callUndoc k _ => k != 0
  | _ => true

end Sys2Proof
end

