-- ==== Sys2Proof/Decode.lean ====
section
/-! DEFINITION. The decoder (30_encoding.md R70 to R86), total on any bytes, and after it the encoder, written from the same
format table R71. -/

namespace Sys2Proof

open Sys2Proof.Machine

/-! ## Operand codes -/

/-- Register code to operand (R11, R72): 0=B, 1=C, 2=D, 3=E, 4=H, 5=L, 6=M, 7=A. -/
def R8.ofCode (i : BitVec 3) : R8 :=
  match i with
  | 0 => .b
  | 1 => .c
  | 2 => .d
  | 3 => .e
  | 4 => .h
  | 5 => .l
  | 6 => .m
  | _ => .a

/-- Operand to register code (R11, R72). -/
def R8.code : R8 → BitVec 3
  | .b => 0
  | .c => 1
  | .d => 2
  | .e => 3
  | .h => 4
  | .l => 5
  | .m => 6
  | .a => 7

/-- Pair code to pair (R15, R73): 0=BC, 1=DE, 2=HL, 3=SP. -/
def RP.ofCode (i : BitVec 2) : RP :=
  match i with
  | 0 => .bc
  | 1 => .de
  | 2 => .hl
  | _ => .sp

/-- Pair to pair code (R15, R73). -/
def RP.code : RP → BitVec 2
  | .bc => 0
  | .de => 1
  | .hl => 2
  | .sp => 3

/-- Pair code of PUSH and POP to pair (R15, R73): 3=PSW. -/
def StackRP.ofCode (i : BitVec 2) : StackRP :=
  match i with
  | 0 => .bc
  | 1 => .de
  | 2 => .hl
  | _ => .psw

/-- Pair of PUSH and POP to pair code (R15, R73). -/
def StackRP.code : StackRP → BitVec 2
  | .bc => 0
  | .de => 1
  | .hl => 2
  | .psw => 3

/-- The 1-bit pair code of LDAX and STAX (R71, format RPX): 0=BC, 1=DE. -/
def IndexRP.code : IndexRP → BitVec 1
  | .bc => 0
  | .de => 1

/-- `ccc` (R74): 0=NZ, 1=Z, 2=NC, 3=C, 4=PO, 5=PE, 6=P, 7=M. -/
def Cond.code : Cond → BitVec 3
  | .nz => 0
  | .z => 1
  | .nc => 2
  | .c => 3
  | .po => 4
  | .pe => 5
  | .p => 6
  | .m => 7

/-! ## Lengths -/

/-- The three-byte opcodes of R83 that do not depend on `UNDOC_AS_NOP`. -/
def threeByteOpcodes : List Byte :=
  [0x01, 0x11, 0x21, 0x31] ++ [0x22, 0x2A, 0x32, 0x3A] ++
  [0xC2, 0xCA, 0xD2, 0xDA, 0xE2, 0xEA, 0xF2, 0xFA] ++
  [0xC4, 0xCC, 0xD4, 0xDC, 0xE4, 0xEC, 0xF4, 0xFC] ++ [0xC3, 0xCD]

/-- The undocumented aliases of JMP and CALL: three bytes, or one under `UNDOC_AS_NOP` (R83, R86). -/
def undocThreeByteOpcodes : List Byte := [0xCB, 0xDD, 0xED, 0xFD]

/-- The two-byte opcodes of R83. -/
def twoByteOpcodes : List Byte :=
  [0x06, 0x0E, 0x16, 0x1E, 0x26, 0x2E, 0x36, 0x3E] ++
  [0xC6, 0xCE, 0xD6, 0xDE, 0xE6, 0xEE, 0xF6, 0xFE] ++ [0xD3, 0xDB]

/-- `Length(op)` (R83) for either value of `UNDOC_AS_NOP`. -/
def opLengthWith (asNop : Bool) (op : Byte) : Nat :=
  if op ∈ threeByteOpcodes then 3
  else if op ∈ undocThreeByteOpcodes then (if asNop then 1 else 3)
  else if op ∈ twoByteOpcodes then 2
  else 1

/-- `Length(op)` (R83) of this machine. -/
def opLength (op : Byte) : Nat := opLengthWith Config.undocAsNop op

/-! ## The opcode map -/

/-- Quadrant 00 (R77); `y` is bits 5..3 and `z` is bits 2..0 of the opcode. -/
def decodeQuadrant0 (y z : BitVec 3) (b1 b2 : Byte) : Instr :=
  let rr := y.extractLsb' 1 2
  match z with
  | 0 => if y = 0 then .nop else .nopUndoc y
  | 1 => if y.getLsbD 0 then .dad (.ofCode rr) else .lxi (.ofCode rr) (joinBytes b2 b1)
  | 2 =>
    match y with
    | 0 => .stax .bc
    | 1 => .ldax .bc
    | 2 => .stax .de
    | 3 => .ldax .de
    | 4 => .shld (joinBytes b2 b1)
    | 5 => .lhld (joinBytes b2 b1)
    | 6 => .sta (joinBytes b2 b1)
    | _ => .lda (joinBytes b2 b1)
  | 3 => if y.getLsbD 0 then .dcx (.ofCode rr) else .inx (.ofCode rr)
  | 4 => .inr (.ofCode y)
  | 5 => .dcr (.ofCode y)
  | 6 => .mvi (.ofCode y) b1
  | _ =>
    match y with
    | 0 => .rlc
    | 1 => .rrc
    | 2 => .ral
    | 3 => .rar
    | 4 => .daa
    | 5 => .cma
    | 6 => .stc
    | _ => .cmc

/-- Quadrant 01 (R78): MOV, but for `01110110`, which is HLT. -/
def decodeQuadrant1 (y z : BitVec 3) : Instr :=
  if y = 6 ∧ z = 6 then .hlt else .mov (.ofCode y) (.ofCode z)

/-- Quadrant 10 (R79): the accumulator operation `y` on the operand `z` (R74). -/
def decodeQuadrant2 (y z : BitVec 3) : Instr :=
  match y with
  | 0 => .add (.ofCode z)
  | 1 => .adc (.ofCode z)
  | 2 => .sub (.ofCode z)
  | 3 => .sbb (.ofCode z)
  | 4 => .ana (.ofCode z)
  | 5 => .xra (.ofCode z)
  | 6 => .ora (.ofCode z)
  | _ => .cmp (.ofCode z)

/-- Quadrant 11 (R80), the five undocumented opcodes whose alias is not NOP among it (R86). -/
def decodeQuadrant3 (asNop : Bool) (y z : BitVec 3) (b1 b2 : Byte) : Instr :=
  let rr := y.extractLsb' 1 2
  let addr := joinBytes b2 b1
  match z with
  | 0 =>
    match y with
    | 0 => .rnz
    | 1 => .rz
    | 2 => .rnc
    | 3 => .rc
    | 4 => .rpo
    | 5 => .rpe
    | 6 => .rp
    | _ => .rm
  | 1 =>
    match y with
    | 1 => .ret
    | 3 => if asNop then .nop else .retUndoc
    | 5 => .pchl
    | 7 => .sphl
    | _ => .pop (.ofCode rr)
  | 2 =>
    match y with
    | 0 => .jnz addr
    | 1 => .jz addr
    | 2 => .jnc addr
    | 3 => .jc addr
    | 4 => .jpo addr
    | 5 => .jpe addr
    | 6 => .jp addr
    | _ => .jm addr
  | 3 =>
    match y with
    | 0 => .jmp addr
    | 1 => if asNop then .nop else .jmpUndoc addr
    | 2 => .outp b1
    | 3 => .inp b1
    | 4 => .xthl
    | 5 => .xchg
    | 6 => .di
    | _ => .ei
  | 4 =>
    match y with
    | 0 => .cnz addr
    | 1 => .cz addr
    | 2 => .cnc addr
    | 3 => .cc addr
    | 4 => .cpo addr
    | 5 => .cpe addr
    | 6 => .cp addr
    | _ => .cm addr
  | 5 =>
    match y with
    | 1 => .call addr
    | 3 => if asNop then .nop else .callUndoc 1 addr
    | 5 => if asNop then .nop else .callUndoc 2 addr
    | 7 => if asNop then .nop else .callUndoc 3 addr
    | _ => .push (.ofCode rr)
  | 6 =>
    match y with
    | 0 => .adi b1
    | 1 => .aci b1
    | 2 => .sui b1
    | 3 => .sbi b1
    | 4 => .ani b1
    | 5 => .xri b1
    | 6 => .ori b1
    | _ => .cpi b1
  | _ => .rst y

/-- The instruction of opcode `op` and operand bytes `b1`, `b2` for either value of `UNDOC_AS_NOP` (R77 to R81, R86). It is
total: every one of the 256 opcode bytes selects an instruction (R84). -/
def decodeOpWith (asNop : Bool) (op b1 b2 : Byte) : Instr :=
  let y : BitVec 3 := op.extractLsb' 3 3
  let z : BitVec 3 := op.extractLsb' 0 3
  match op.extractLsb' 6 2 with
  | 0 => decodeQuadrant0 y z b1 b2
  | 1 => decodeQuadrant1 y z
  | 2 => decodeQuadrant2 y z
  | _ => decodeQuadrant3 asNop y z b1 b2

/-- The instruction of opcode `op` and operand bytes `b1`, `b2` on this machine. Bytes beyond `opLength op` play no part. -/
def decodeOp (op b1 b2 : Byte) : Instr := decodeOpWith Config.undocAsNop op b1 b2

/-- Why a list of bytes is no instruction. No opcode is illegal (R84), so only missing bytes are. -/
inductive DecodeError where
  /-- There is no opcode byte. -/
  | noOpcode
  /-- The opcode `op` needs more operand bytes than the list holds. -/
  | missingOperands (op : Byte)
  deriving DecidableEq, Repr

/-- The instruction a list of bytes begins with, and the bytes after it (R70, R75). -/
def decode : List Byte → Except DecodeError (Instr × List Byte)
  | [] => .error .noOpcode
  | op :: rest =>
    match opLength op, rest with
    | 1, rest => .ok (decodeOp op 0 0, rest)
    | 2, b1 :: rest => .ok (decodeOp op b1 0, rest)
    | 3, b1 :: b2 :: rest => .ok (decodeOp op b1 b2, rest)
    | _, _ => .error (.missingOperands op)

/-! ## The encoder -/

/-- Format A16 and CCA: an opcode and a 16-bit operand, low byte first (R71, R75). -/
def withWord (op : Byte) (w : Word) : List Byte := [op, loByte w, hiByte w]

/-- The bytes of a well-formed instruction, from the format table R71 and the opcode map R77 to R80. -/
def encode : Instr → List Byte
  | .mov dst src => [0b01#2 ++ dst.code ++ src.code]
  | .mvi dst imm => [0b00#2 ++ dst.code ++ 0b110#3, imm]
  | .lxi rp imm => withWord (0b00#2 ++ rp.code ++ 0b0001#4) imm
  | .lda addr => withWord 0x3A addr
  | .sta addr => withWord 0x32 addr
  | .ldax rp => [0b000#3 ++ rp.code ++ 0b1010#4]
  | .stax rp => [0b000#3 ++ rp.code ++ 0b0010#4]
  | .lhld addr => withWord 0x2A addr
  | .shld addr => withWord 0x22 addr
  | .xchg => [0xEB]
  | .xthl => [0xE3]
  | .sphl => [0xF9]
  | .pchl => [0xE9]
  | .add r => [0b10#2 ++ 0#3 ++ r.code]
  | .adi imm => [0xC6, imm]
  | .adc r => [0b10#2 ++ 1#3 ++ r.code]
  | .aci imm => [0xCE, imm]
  | .sub r => [0b10#2 ++ 2#3 ++ r.code]
  | .sui imm => [0xD6, imm]
  | .sbb r => [0b10#2 ++ 3#3 ++ r.code]
  | .sbi imm => [0xDE, imm]
  | .ana r => [0b10#2 ++ 4#3 ++ r.code]
  | .ani imm => [0xE6, imm]
  | .xra r => [0b10#2 ++ 5#3 ++ r.code]
  | .xri imm => [0xEE, imm]
  | .ora r => [0b10#2 ++ 6#3 ++ r.code]
  | .ori imm => [0xF6, imm]
  | .cmp r => [0b10#2 ++ 7#3 ++ r.code]
  | .cpi imm => [0xFE, imm]
  | .inr dst => [0b00#2 ++ dst.code ++ 0b100#3]
  | .dcr dst => [0b00#2 ++ dst.code ++ 0b101#3]
  | .dad rp => [0b00#2 ++ rp.code ++ 0b1001#4]
  | .inx rp => [0b00#2 ++ rp.code ++ 0b0011#4]
  | .dcx rp => [0b00#2 ++ rp.code ++ 0b1011#4]
  | .daa => [0x27]
  | .rlc => [0x07]
  | .rrc => [0x0F]
  | .ral => [0x17]
  | .rar => [0x1F]
  | .jmp addr => withWord 0xC3 addr
  | .jnz addr => withWord (0b11#2 ++ Cond.nz.code ++ 0b010#3) addr
  | .jz addr => withWord (0b11#2 ++ Cond.z.code ++ 0b010#3) addr
  | .jnc addr => withWord (0b11#2 ++ Cond.nc.code ++ 0b010#3) addr
  | .jc addr => withWord (0b11#2 ++ Cond.c.code ++ 0b010#3) addr
  | .jpo addr => withWord (0b11#2 ++ Cond.po.code ++ 0b010#3) addr
  | .jpe addr => withWord (0b11#2 ++ Cond.pe.code ++ 0b010#3) addr
  | .jp addr => withWord (0b11#2 ++ Cond.p.code ++ 0b010#3) addr
  | .jm addr => withWord (0b11#2 ++ Cond.m.code ++ 0b010#3) addr
  | .call addr => withWord 0xCD addr
  | .cnz addr => withWord (0b11#2 ++ Cond.nz.code ++ 0b100#3) addr
  | .cz addr => withWord (0b11#2 ++ Cond.z.code ++ 0b100#3) addr
  | .cnc addr => withWord (0b11#2 ++ Cond.nc.code ++ 0b100#3) addr
  | .cc addr => withWord (0b11#2 ++ Cond.c.code ++ 0b100#3) addr
  | .cpo addr => withWord (0b11#2 ++ Cond.po.code ++ 0b100#3) addr
  | .cpe addr => withWord (0b11#2 ++ Cond.pe.code ++ 0b100#3) addr
  | .cp addr => withWord (0b11#2 ++ Cond.p.code ++ 0b100#3) addr
  | .cm addr => withWord (0b11#2 ++ Cond.m.code ++ 0b100#3) addr
  | .ret => [0xC9]
  | .rnz => [0b11#2 ++ Cond.nz.code ++ 0b000#3]
  | .rz => [0b11#2 ++ Cond.z.code ++ 0b000#3]
  | .rnc => [0b11#2 ++ Cond.nc.code ++ 0b000#3]
  | .rc => [0b11#2 ++ Cond.c.code ++ 0b000#3]
  | .rpo => [0b11#2 ++ Cond.po.code ++ 0b000#3]
  | .rpe => [0b11#2 ++ Cond.pe.code ++ 0b000#3]
  | .rp => [0b11#2 ++ Cond.p.code ++ 0b000#3]
  | .rm => [0b11#2 ++ Cond.m.code ++ 0b000#3]
  | .rst n => [0b11#2 ++ n ++ 0b111#3]
  | .push rp => [0b11#2 ++ rp.code ++ 0b0101#4]
  | .pop rp => [0b11#2 ++ rp.code ++ 0b0001#4]
  | .inp port => [0xDB, port]
  | .outp port => [0xD3, port]
  | .nop => [0x00]
  | .hlt => [0x76]
  | .ei => [0xFB]
  | .di => [0xF3]
  | .cma => [0x2F]
  | .stc => [0x37]
  | .cmc => [0x3F]
  | .nopUndoc k => [0b00#2 ++ k ++ 0b000#3]
  | .jmpUndoc addr => withWord 0xCB addr
  | .retUndoc => [0xD9]
  | .callUndoc k addr => withWord (0b11#2 ++ k ++ 0b1101#4) addr

/-- The number of bytes of an instruction, from its format (R71). -/
def Instr.length : Instr → Nat
  | .lxi _ _ | .lda _ | .sta _ | .lhld _ | .shld _ => 3
  | .jmp _ | .jnz _ | .jz _ | .jnc _ | .jc _ | .jpo _ | .jpe _ | .jp _ | .jm _ => 3
  | .call _ | .cnz _ | .cz _ | .cnc _ | .cc _ | .cpo _ | .cpe _ | .cp _ | .cm _ => 3
  | .jmpUndoc _ | .callUndoc _ _ => 3
  | .mvi _ _ | .adi _ | .aci _ | .sui _ | .sbi _ | .ani _ | .xri _ | .ori _ | .cpi _ => 2
  | .inp _ | .outp _ => 2
  | _ => 1

/-! ## The host's question about one word of the opcode table -/

/-- Byte `k` of an instruction given as one number, bit 0 the least significant bit of its first byte. -/
def tableByte (nbits w k : Nat) : Byte := BitVec.ofNat 8 (w % 2 ^ nbits / 2 ^ (8 * k))

/-- The instruction the decoder reads from an instruction whose bits are `w`, every bit from `nbits` up being 0: its three bytes
at rising addresses, the first the opcode. -/
def decodeTableWord (nbits w : Nat) : Option Instr :=
  match decode [tableByte nbits w 0, tableByte nbits w 1, tableByte nbits w 2] with
  | .ok (i, _) => some i
  | .error _ => none

end Sys2Proof
end

