-- ==== Sys2Proof/Machine/State.lean ====
section
/-! DEFINITION. The state of the machine as plain data (10_state.md R10 to R33), the state after reset (70_reset_and_hazards.md
R340), and the reasons a step can stop. -/

namespace Sys2Proof.Machine

/-- The five flags (R18). `a` is the auxiliary carry. The flag byte of PSW is computed from them and is not state (R19). -/
structure Flags where
  /-- `F.S`. -/
  s : Bool
  /-- `F.Z`. -/
  z : Bool
  /-- `F.A`, the auxiliary carry. -/
  a : Bool
  /-- `F.P`. -/
  p : Bool
  /-- `F.C`. -/
  c : Bool
  deriving DecidableEq, Repr

/-- The read-only window `(lo, hi)`, both ends inclusive (R24; 20_memory.md R48). -/
structure RomWindow where
  lo : Word
  hi : Word
  deriving DecidableEq, Repr

/-- Memory as (address, byte) pairs; an unlisted address reads as 0x00, the content the spec gives every cell at reset (R26).
Canonical form: `Memory.wf`. -/
abbrev Memory := List Host.Cell

/-- 256 port latches as (port, byte) pairs; an unlisted port holds `none` (R27, R28). Canonical form: `Latches.wf`. -/
abbrev Latches := List Host.Cell

/-- Everything the spec gives the machine (R33), and one field of the model's own, `ack`. -/
structure State where
  /-- A, the accumulator (R10). -/
  a : Byte
  b : Byte
  c : Byte
  d : Byte
  e : Byte
  h : Byte
  l : Byte
  /-- SP (R16). -/
  sp : Word
  /-- PC (R17): between steps, the address of the next opcode to fetch. -/
  pc : Word
  /-- The five flags (R18). -/
  flags : Flags
  /-- INTE, the interrupt-enable latch (R20). -/
  inte : Bool
  /-- `ei_pending`: an EI whose enable has not been promoted yet (R21). -/
  eiPending : Bool
  /-- `halted` (R22). -/
  halted : Bool
  /-- `INT.pending` (R23). -/
  intPending : Bool
  /-- `INT.opcode` (R23). -/
  intOpcode : Byte
  /-- The read-only window, if the host has set one (R24). -/
  rom : Option RomWindow
  /-- The 65,536 bytes of memory (R26). -/
  mem : Memory
  /-- The 256 input latches (R27). -/
  ioIn : Latches
  /-- The 256 output latches (R28). -/
  ioOut : Latches
  /-- NOT the spec's state but the model's: the wire `ack` of the step in progress (40_step_fsm.md R101, R114), from which a
  meaning knows whether its opcode was fetched or acknowledged (R106). The step sets it before EXECUTE and clears it at RETIRE,
  so it is false between steps. DESIGN CHOICE, log entry 1; safe: Obligations.StepKeepsStateInv states that no step leaves it set. -/
  ack : Bool
  deriving DecidableEq, Repr

/-- The state after reset, which is creation (R340, R341): all zero, no window, every latch absent. -/
def State.reset : State where
  a := 0
  b := 0
  c := 0
  d := 0
  e := 0
  h := 0
  l := 0
  sp := 0
  pc := 0
  flags := { s := false, z := false, a := false, p := false, c := false }
  inte := false
  eiPending := false
  halted := false
  intPending := false
  intOpcode := 0
  rom := none
  mem := []
  ioIn := []
  ioOut := []
  ack := false

/-- The reasons the machine stops with a fault: none. The machine raises no synchronous exception of any kind (60_exceptions.md
R300) and no access ever faults (20_memory.md R63), so nothing raises one and the type has no constructor. -/
inductive Fault where
  deriving DecidableEq, Repr

/-- The reasons a step, or a host operation, is given no meaning. -/
inductive Refusal where
  /-- Raised by exec's arm of an instruction the model has no meaning for; no arm raises it now. Safe: the model stops where the
  hardware goes on. -/
  | notModelled (mnemonic : String)
  /-- Raised by the step when the interrupt slot's opcode `op`, to be acknowledged, is two or three bytes long: the spec gives
  such a step no meaning and refuses it (60_exceptions.md R309; 92_eei_decisions.md D13). Safe: the model stops where some
  hardware might go on. Log entry 4. -/
  | slotOperandsUnknown (op : Byte)
  /-- Raised by the host operation `set_romspace(lo, hi)` when `lo > hi`, which violates its precondition and is refused
  (20_memory.md R53; 92_eei_decisions.md D3). No step raises it. Safe: the model gives the host no such move. Log entry 5. -/
  | romBoundsReversed (lo hi : Word)
  deriving DecidableEq, Repr

/-- What a meaning answers. -/
abbrev Result := Host.Outcome State Fault Refusal

end Sys2Proof.Machine
end

