-- ==== Sys2Proof/Machine/Flags.lean ====
section
/-! DEFINITION. The flag computation unit: pure functions, no hidden state (42_arithmetic_logic.md R140 to R144), the flag byte
(10_state.md R19), the decimal adjustment (R166) and the four rotations of A (43_rotates.md R180 to R183). -/

namespace Sys2Proof.Machine

/-- Whether the number of 1 bits of `v` is even (R140). -/
def evenParity (v : Byte) : Bool :=
  ((v.getLsbD 0).toNat + (v.getLsbD 1).toNat + (v.getLsbD 2).toNat + (v.getLsbD 3).toNat +
    (v.getLsbD 4).toNat + (v.getLsbD 5).toNat + (v.getLsbD 6).toNat + (v.getLsbD 7).toNat) % 2 == 0

/-- `SZP(v)` (R140): S, Z and P from the result byte; A and C as they were. So S, Z and P are all 0 for 0x01, R140's own example,
and all five flags can be 0 after DAA of 0x40 (R170). 70_reset_and_hazards.md R349 (d) and 10_state.md R18 remark that no result
gives the flags of reset, and no ruling settles it: following R140 is the model's DESIGN CHOICE, log entry 24; unsafe if the
remark is what holds. -/
def szp (f : Flags) (v : Byte) : Flags :=
  { f with s := v.getLsbD 7, z := v == 0, p := evenParity v }

/-- The low nibble `v & 0x0F`. -/
def lowNibble (v : Byte) : Nat := (v &&& 0x0F).toNat

/-- `AddFlags(a, b, cin)` (R141): the sum byte and all five flags. -/
def addFlags (f : Flags) (x y : Byte) (cin : Bool) : Byte × Flags :=
  let t := x.toNat + y.toNat + cin.toNat
  let r := BitVec.ofNat 8 t
  (r, szp { f with c := decide (0xFF < t), a := decide (0x0F < lowNibble x + lowNibble y + cin.toNat) } r)

/-- `SubFlags(a, b, bin)` (R142): subtraction as `a + ~b + (1 - bin)`; C is the inverse of the adder's carry out (90_conflicts.md
C10), A is the nibble carry of that same addition, not inverted. -/
def subFlags (f : Flags) (x y : Byte) (bin : Bool) : Byte × Flags :=
  let ny := ~~~y
  let cin := 1 - bin.toNat
  let t := x.toNat + ny.toNat + cin
  let r := BitVec.ofNat 8 t
  (r, szp { f with c := !decide (0xFF < t), a := decide (0x0F < lowNibble x + lowNibble ny + cin) } r)

/-- `AndFlags(a, b)` (R143): C cleared, A is bit 3 of the OR of the two operands. -/
def andFlags (f : Flags) (x y : Byte) : Byte × Flags :=
  let r := x &&& y
  (r, szp { f with c := false, a := (x ||| y).getLsbD 3 } r)

/-- `OrFlags(r)` (R144): C and A cleared. -/
def orFlags (f : Flags) (r : Byte) : Flags := szp { f with c := false, a := false } r

/-- `FlagByte()` (R19): S Z 0 A 0 P 1 C from bit 7 to bit 0. -/
def flagByte (f : Flags) : Byte :=
  BitVec.ofNat 8
    (128 * f.s.toNat + 64 * f.z.toNat + 16 * f.a.toNat + 4 * f.p.toNat + 2 + f.c.toNat)

/-- `SetFlagByte(b)` (R19): bits 5, 3 and 1 are ignored. -/
def setFlagByte (v : Byte) : Flags :=
  { s := v.getLsbD 7, z := v.getLsbD 6, a := v.getLsbD 4, p := v.getLsbD 2, c := v.getLsbD 0 }

/-- DAA (R166): the first sum is kept to nine bits, so its carry out of bit 7 makes the second correction fire; A is written in
every case (92_eei_decisions.md D10, D11; 90_conflicts.md C6). -/
def decimalAdjust (f : Flags) (a0 : Byte) : Byte × Flags :=
  let lofix := decide (9 < lowNibble a0) || f.a
  let t1 := a0.toNat + (if lofix then 6 else 0)
  let ac := lofix && decide (0x0F < lowNibble a0 + 6)
  let hifix := decide (0xA0 ≤ t1) || f.c
  let t2 := BitVec.ofNat 8 (t1 + (if hifix then 0x60 else 0))
  (t2, szp { f with a := ac, c := hifix } t2)

/-! Each rotation answers the new A and the new C; S, Z, A and P stay (43_rotates.md). -/

/-- RLC (R180): the leaving bit 7 enters bit 0. -/
def rotateLeft (v : Byte) : Byte × Bool :=
  let out := v.getLsbD 7
  ((v <<< 1) ||| BitVec.ofNat 8 out.toNat, out)

/-- RRC (R181): the leaving bit 0 enters bit 7. -/
def rotateRight (v : Byte) : Byte × Bool :=
  let out := v.getLsbD 0
  ((v >>> 1) ||| (BitVec.ofNat 8 out.toNat <<< 7), out)

/-- RAL (R182): the old C enters bit 0. -/
def rotateLeftCarry (v : Byte) (c0 : Bool) : Byte × Bool :=
  ((v <<< 1) ||| BitVec.ofNat 8 c0.toNat, v.getLsbD 7)

/-- RAR (R183): the old C enters bit 7. -/
def rotateRightCarry (v : Byte) (c0 : Bool) : Byte × Bool :=
  ((v >>> 1) ||| (BitVec.ofNat 8 c0.toNat <<< 7), v.getLsbD 0)

end Sys2Proof.Machine
end

