-- ==== Sys2Proof/Machine/Ops.lean ====
section
/-! DEFINITION. The named operations over memory, the port latches, the program counter and the stack, interrupt acknowledge
(the machine's one diversion of control) and the return beside it. -/

namespace Sys2Proof.Machine

/-! ## Sparse cells -/

/-- The byte listed at key `k`. -/
def cellGet : List Host.Cell → Nat → Option Byte
  | [], _ => none
  | (j, v) :: rest, k => if j = k then some v else cellGet rest k

/-- List `v` at key `k`, keeping rising keys rising. -/
def cellSet : List Host.Cell → Nat → Byte → List Host.Cell
  | [], k, v => [(k, v)]
  | (j, w) :: rest, k, v =>
    if k < j then (k, v) :: (j, w) :: rest
    else if j = k then (k, v) :: rest
    else (j, w) :: cellSet rest k v

/-- List nothing at key `k`. -/
def cellErase (m : List Host.Cell) (k : Nat) : List Host.Cell := m.filter (fun p => p.1 ≠ k)

/-! ## Memory -/

/-- The canonical form of memory: addresses rise strictly and are below 2^16, and no listed byte is the 0x00 an unlisted address
reads as. Two memories in this form are equal exactly when every byte reads the same. -/
abbrev Memory.wf (m : Memory) : Prop :=
  m.Pairwise (fun p q => p.1 < q.1) ∧ ∀ p ∈ m, p.1 < 65536 ∧ p.2 ≠ 0

/-- What an unlisted address reads as: every cell is 0x00 at reset (10_state.md R26). -/
def Memory.unlisted : Byte := 0

/-- `Mem[a]`. -/
def Memory.read (m : Memory) (a : Word) : Byte := (cellGet m a.toNat).getD Memory.unlisted

/-- `Mem[a] <- v`, in canonical form. -/
def Memory.write (m : Memory) (a : Word) (v : Byte) : Memory :=
  if v = Memory.unlisted then cellErase m a.toNat else cellSet m a.toNat v

/-- Whether `a` lies in the read-only window: `lo ≤ a ≤ hi`, both ends included (20_memory.md R48; 90_conflicts.md C1). -/
def State.inRom (s : State) (a : Word) : Bool :=
  match s.rom with
  | none => false
  | some w => decide (w.lo ≤ a) && decide (a ≤ w.hi)

/-- `MemRead(addr, 1)` (R42): always succeeds, no side effect; the window does not affect it. -/
def State.readByte (s : State) (a : Word) : Byte := s.mem.read a

/-- `MemRead(addr, 2)` (R43): low byte from `a`, high byte from `a + 1`, mod 2^16. -/
def State.readWord (s : State) (a : Word) : Word := joinBytes (s.readByte (a + 1)) (s.readByte a)

/-- `MemWrite(addr, 1, v)` (R44): silently discarded inside the window. -/
def State.writeByte (s : State) (a : Word) (v : Byte) : State :=
  if s.inRom a then s else { s with mem := s.mem.write a v }

/-- `MemWrite(addr, 2, v)` (R45): two byte writes, low byte first, each subject to the window. -/
def State.writeWord (s : State) (a : Word) (v : Word) : State :=
  (s.writeByte a (loByte v)).writeByte (a + 1) (hiByte v)

/-! ## Port latches -/

/-- The canonical form of 256 latches: ports rise strictly and are below 256. -/
abbrev Latches.wf (m : Latches) : Prop :=
  m.Pairwise (fun p q => p.1 < q.1) ∧ ∀ p ∈ m, p.1 < 256

/-- The latch of `port` (10_state.md R27, R28). -/
def Latches.get (m : Latches) (port : Byte) : Option Byte := cellGet m port.toNat

/-- `latch[port] <- some(v)`. -/
def Latches.set (m : Latches) (port v : Byte) : Latches := cellSet m port.toNat v

/-- `latch[port] <- none`. -/
def Latches.clear (m : Latches) (port : Byte) : Latches := cellErase m port.toNat

/-! ## The program counter -/

/-- `npc`, the next sequential PC of an instruction `len` bytes long (40_step_fsm.md R106): `PC + len` mod 2^16 for a fetched
opcode, PC itself for an acknowledged one. In a meaning's state `pc` still holds the PC the step started with. -/
def State.npc (s : State) (len : Nat) : Word := if s.ack then s.pc else s.pc + BitVec.ofNat 16 len

/-- `PC <- npc`, the default end of an instruction `len` bytes long (R109). -/
def State.advance (s : State) (len : Nat) : State := { s with pc := s.npc len }

/-- `PC <- addr`. -/
def State.jump (s : State) (addr : Word) : State := { s with pc := addr }

/-! ## The stack (45_stack.md) -/

/-- `Push16(v)` (R230): SP down by 2, then the high byte at SP + 1 and the low byte at SP, each subject to the window. -/
def State.push16 (s : State) (v : Word) : State :=
  let s1 := { s with sp := s.sp - 2 }
  (s1.writeByte (s1.sp + 1) (hiByte v)).writeByte s1.sp (loByte v)

/-- The word `Pop16()` returns (R231). -/
def State.stackTop (s : State) : Word := s.readWord s.sp

/-- What `Pop16()` does to the state (R231): SP up by 2; the two bytes stay in memory. -/
def State.dropTop (s : State) : State := { s with sp := s.sp + 2 }

/-- `Push16(npc); PC <- target`: CALL, a taken conditional call and RST (44_control_flow.md R200, R224, R218). -/
def State.callTo (s : State) (len : Nat) (target : Word) : State := (s.push16 (s.npc len)).jump target

/-! ## Interrupt acknowledge and return (60_exceptions.md) -/

/-- Interrupt acknowledge (R306; 40_step_fsm.md R101, R102), the machine's only entry: INTE, `INT.pending`, `halted` and
`ei_pending` are cleared, `INT.opcode` keeps its value, and PC is left as it is, so `npc = PC` for the slot's opcode. The core
itself saves nothing: what is saved is saved by the opcode executed next. -/
def State.acknowledge (s : State) : State :=
  { s with inte := false, intPending := false, halted := false, eiPending := false, ack := true }

/-- The way back (R312): there is no return-from-interrupt instruction; RET pops PC and changes nothing else (44_control_flow.md
R209). -/
def State.returnTo (s : State) : State := s.dropTop.jump s.stackTop

/-- EI promotion, just before EXECUTE (40_step_fsm.md R108). -/
def State.promoteEi (s : State) : State :=
  if s.eiPending then { s with inte := true, eiPending := false } else s

end Sys2Proof.Machine
end

