-- ==== Sys2Proof/Machine/Operands.lean ====
section
/-! DEFINITION. Every operand form the spec gives: the 3-bit operand (10_state.md R13), the register pairs (R14, R15), the
pointers of LDAX and STAX, and the conditions (44_control_flow.md R190). -/

namespace Sys2Proof.Machine

/-- `H || L`, the address of the operand M (R12): formed from H and L as they are at the moment of the access. -/
def State.hl (s : State) : Word := joinBytes s.h s.l

/-- `R8[i]` (R13). -/
def State.getR8 (s : State) : R8 → Byte
  | .b => s.b
  | .c => s.c
  | .d => s.d
  | .e => s.e
  | .h => s.h
  | .l => s.l
  | .m => s.readByte s.hl
  | .a => s.a

/-- `R8[i] <- v` (R13); through code 6 it is a memory write at HL, subject to the window. -/
def State.setR8 (s : State) (r : R8) (v : Byte) : State :=
  match r with
  | .b => { s with b := v }
  | .c => { s with c := v }
  | .d => { s with d := v }
  | .e => { s with e := v }
  | .h => { s with h := v }
  | .l => { s with l := v }
  | .m => s.writeByte s.hl v
  | .a => { s with a := v }

/-- `RP[i]` (R15): the first-named register is the high byte (R14). -/
def State.getRP (s : State) : RP → Word
  | .bc => joinBytes s.b s.c
  | .de => joinBytes s.d s.e
  | .hl => joinBytes s.h s.l
  | .sp => s.sp

/-- `RP[i] <- v` (R15). -/
def State.setRP (s : State) (rp : RP) (v : Word) : State :=
  match rp with
  | .bc => { s with b := hiByte v, c := loByte v }
  | .de => { s with d := hiByte v, e := loByte v }
  | .hl => { s with h := hiByte v, l := loByte v }
  | .sp => { s with sp := v }

/-- The address LDAX and STAX use (41_data_movement.md R125, R126). -/
def State.pointer (s : State) : IndexRP → Word
  | .bc => joinBytes s.b s.c
  | .de => joinBytes s.d s.e

/-- `Cond(c)` (R190), on the flags as they stand. -/
def condHolds (f : Flags) : Cond → Bool
  | .nz => !f.z
  | .z => f.z
  | .nc => !f.c
  | .c => f.c
  | .po => !f.p
  | .pe => f.p
  | .p => !f.s
  | .m => f.s

end Sys2Proof.Machine
end

