-- ==== Sys2Proof/Machine/ArithLogic.lean ====
section
/-! DEFINITION. Arithmetic and logic: the meanings of the sixteen accumulator operations, INR, DCR, DAD, INX, DCX and DAA
(42_arithmetic_logic.md R145 to R166). Each ends with `PC <- npc`. -/

namespace Sys2Proof.Machine

/-- A and the flags take the result of a flag helper. -/
def State.setAF (s : State) (r : Byte × Flags) : State := { s with a := r.1, flags := r.2 }

/-- Only the flags take the result of a flag helper; the byte is discarded (R159). -/
def State.setF (s : State) (r : Byte × Flags) : State := { s with flags := r.2 }

/-- A takes the OR or XOR result `r`, the flags those of `OrFlags` (R144). -/
def State.setLogic (s : State) (r : Byte) : State := { s with a := r, flags := orFlags s.flags r }

/-- ADD s (R145). -/
def execAdd (r : R8) (s : State) : Result := .next ((s.setAF (addFlags s.flags s.a (s.getR8 r) false)).advance 1)

/-- ADI imm8 (R146). -/
def execAdi (imm : Byte) (s : State) : Result := .next ((s.setAF (addFlags s.flags s.a imm false)).advance 2)

/-- ADC s (R147). -/
def execAdc (r : R8) (s : State) : Result :=
  .next ((s.setAF (addFlags s.flags s.a (s.getR8 r) s.flags.c)).advance 1)

/-- ACI imm8 (R148). -/
def execAci (imm : Byte) (s : State) : Result := .next ((s.setAF (addFlags s.flags s.a imm s.flags.c)).advance 2)

/-- SUB s (R149). -/
def execSub (r : R8) (s : State) : Result := .next ((s.setAF (subFlags s.flags s.a (s.getR8 r) false)).advance 1)

/-- SUI imm8 (R150). -/
def execSui (imm : Byte) (s : State) : Result := .next ((s.setAF (subFlags s.flags s.a imm false)).advance 2)

/-- SBB s (R151). -/
def execSbb (r : R8) (s : State) : Result :=
  .next ((s.setAF (subFlags s.flags s.a (s.getR8 r) s.flags.c)).advance 1)

/-- SBI imm8 (R152). -/
def execSbi (imm : Byte) (s : State) : Result := .next ((s.setAF (subFlags s.flags s.a imm s.flags.c)).advance 2)

/-- ANA s (R153). -/
def execAna (r : R8) (s : State) : Result := .next ((s.setAF (andFlags s.flags s.a (s.getR8 r))).advance 1)

/-- ANI imm8 (R154). -/
def execAni (imm : Byte) (s : State) : Result := .next ((s.setAF (andFlags s.flags s.a imm)).advance 2)

/-- XRA s (R155). -/
def execXra (r : R8) (s : State) : Result := .next ((s.setLogic (s.a ^^^ s.getR8 r)).advance 1)

/-- XRI imm8 (R156). -/
def execXri (imm : Byte) (s : State) : Result := .next ((s.setLogic (s.a ^^^ imm)).advance 2)

/-- ORA s (R157). -/
def execOra (r : R8) (s : State) : Result := .next ((s.setLogic (s.a ||| s.getR8 r)).advance 1)

/-- ORI imm8 (R158). -/
def execOri (imm : Byte) (s : State) : Result := .next ((s.setLogic (s.a ||| imm)).advance 2)

/-- CMP s (R159): the flags of the difference; A is unchanged. -/
def execCmp (r : R8) (s : State) : Result := .next ((s.setF (subFlags s.flags s.a (s.getR8 r) false)).advance 1)

/-- CPI imm8 (R160). -/
def execCpi (imm : Byte) (s : State) : Result := .next ((s.setF (subFlags s.flags s.a imm false)).advance 2)

/-- Write back an INR or DCR result: the operand and S, Z, A, P take it, C keeps its value (R161, R162). Through M the write is
subject to the window; the flags are those of the result either way. -/
def State.setCounted (s : State) (dst : R8) (r : Byte × Flags) : State :=
  { s with flags := { r.2 with c := s.flags.c } }.setR8 dst r.1

/-- INR d (R161). -/
def execInr (dst : R8) (s : State) : Result :=
  .next ((s.setCounted dst (addFlags s.flags (s.getR8 dst) 1 false)).advance 1)

/-- DCR d (R162). -/
def execDcr (dst : R8) (s : State) : Result :=
  .next ((s.setCounted dst (subFlags s.flags (s.getR8 dst) 1 false)).advance 1)

/-- DAD rp (R163): only C is written, the carry out of bit 15. -/
def execDad (rp : RP) (s : State) : Result :=
  let t := s.hl.toNat + (s.getRP rp).toNat
  .next (({ s with flags := { s.flags with c := decide (0xFFFF < t) } }.setRP .hl (BitVec.ofNat 16 t)).advance 1)

/-- INX rp (R164): no flag. -/
def execInx (rp : RP) (s : State) : Result := .next ((s.setRP rp (s.getRP rp + 1)).advance 1)

/-- DCX rp (R165): no flag. -/
def execDcx (rp : RP) (s : State) : Result := .next ((s.setRP rp (s.getRP rp - 1)).advance 1)

/-- DAA (R166). -/
def execDaa (s : State) : Result := .next ((s.setAF (decimalAdjust s.flags s.a)).advance 1)

end Sys2Proof.Machine
end

