-- ==== Sys2Proof/Machine/ControlFlow.lean ====
section
/-! DEFINITION. Control flow (44_control_flow.md R190 to R225): jumps, calls, returns, restarts and the five undocumented
aliases. None reads or writes a register other than SP and PC, or writes a flag. -/

namespace Sys2Proof.Machine

/-! ## The common forms -/

/-- A conditional jump (R223). -/
def State.jumpIf (s : State) (cond : Cond) (addr : Word) : State :=
  if condHolds s.flags cond then s.jump addr else s.advance 3

/-- A conditional call (R224); not taken, SP and memory are unchanged. -/
def State.callIf (s : State) (cond : Cond) (addr : Word) : State :=
  if condHolds s.flags cond then s.callTo 3 addr else s.advance 3

/-- A conditional return (R225); not taken, the stack is not read. -/
def State.returnIf (s : State) (cond : Cond) : State :=
  if condHolds s.flags cond then s.returnTo else s.advance 1

/-! ## Jumps -/

/-- JMP addr16 (R191). -/
def execJmp (addr : Word) (s : State) : Result := .next (s.jump addr)

/-- JNZ addr16 (R192). -/
def execJnz (addr : Word) (s : State) : Result := .next (s.jumpIf .nz addr)

/-- JZ addr16 (R193). -/
def execJz (addr : Word) (s : State) : Result := .next (s.jumpIf .z addr)

/-- JNC addr16 (R194). -/
def execJnc (addr : Word) (s : State) : Result := .next (s.jumpIf .nc addr)

/-- JC addr16 (R195). -/
def execJc (addr : Word) (s : State) : Result := .next (s.jumpIf .c addr)

/-- JPO addr16 (R196). -/
def execJpo (addr : Word) (s : State) : Result := .next (s.jumpIf .po addr)

/-- JPE addr16 (R197). -/
def execJpe (addr : Word) (s : State) : Result := .next (s.jumpIf .pe addr)

/-- JP addr16 (R198). -/
def execJp (addr : Word) (s : State) : Result := .next (s.jumpIf .p addr)

/-- JM addr16 (R199). -/
def execJm (addr : Word) (s : State) : Result := .next (s.jumpIf .m addr)

/-! ## Calls -/

/-- CALL addr16 (R200): the return address is the address after the third byte. -/
def execCall (addr : Word) (s : State) : Result := .next (s.callTo 3 addr)

/-- CNZ addr16 (R201). -/
def execCnz (addr : Word) (s : State) : Result := .next (s.callIf .nz addr)

/-- CZ addr16 (R202). -/
def execCz (addr : Word) (s : State) : Result := .next (s.callIf .z addr)

/-- CNC addr16 (R203). -/
def execCnc (addr : Word) (s : State) : Result := .next (s.callIf .nc addr)

/-- CC addr16 (R204). -/
def execCc (addr : Word) (s : State) : Result := .next (s.callIf .c addr)

/-- CPO addr16 (R205). -/
def execCpo (addr : Word) (s : State) : Result := .next (s.callIf .po addr)

/-- CPE addr16 (R206). -/
def execCpe (addr : Word) (s : State) : Result := .next (s.callIf .pe addr)

/-- CP addr16 (R207). -/
def execCp (addr : Word) (s : State) : Result := .next (s.callIf .p addr)

/-- CM addr16 (R208). -/
def execCm (addr : Word) (s : State) : Result := .next (s.callIf .m addr)

/-! ## Returns -/

/-- RET (R209). -/
def execRet (s : State) : Result := .next s.returnTo

/-- RNZ (R210). -/
def execRnz (s : State) : Result := .next (s.returnIf .nz)

/-- RZ (R211). -/
def execRz (s : State) : Result := .next (s.returnIf .z)

/-- RNC (R212). -/
def execRnc (s : State) : Result := .next (s.returnIf .nc)

/-- RC (R213). -/
def execRc (s : State) : Result := .next (s.returnIf .c)

/-- RPO (R214). -/
def execRpo (s : State) : Result := .next (s.returnIf .po)

/-- RPE (R215). -/
def execRpe (s : State) : Result := .next (s.returnIf .pe)

/-- RP (R216). -/
def execRp (s : State) : Result := .next (s.returnIf .p)

/-- RM (R217). -/
def execRm (s : State) : Result := .next (s.returnIf .m)

/-! ## Restart and the undocumented aliases -/

/-- The restart target `8 * n` (R218). -/
def restartTarget (n : BitVec 3) : Word := BitVec.ofNat 16 (8 * n.toNat)

/-- RST n (R218): fetched, it pushes the address of the next instruction; acknowledged, the unchanged PC. -/
def execRst (n : BitVec 3) (s : State) : Result := .next (s.callTo 1 (restartTarget n))

/-- 0xCB (R219): as JMP. -/
def execJmpUndoc (addr : Word) (s : State) : Result := .next (s.jump addr)

/-- 0xD9 (R220): as RET. -/
def execRetUndoc (s : State) : Result := .next s.returnTo

/-- 0xDD, 0xED, 0xFD (R221): as CALL, whichever of the three the opcode is. -/
def execCallUndoc (_k : BitVec 2) (addr : Word) (s : State) : Result := .next (s.callTo 3 addr)

end Sys2Proof.Machine
end

