-- ==== Sys2Proof/Machine/DataMovement.lean ====
section
/-! DEFINITION. Data movement: the meanings of MOV, MVI, LXI, LDA, STA, LDAX, STAX, LHLD, SHLD, XCHG, XTHL, SPHL, PCHL
(41_data_movement.md R120 to R132). None reads or writes a flag; each but PCHL ends with `PC <- npc`. -/

namespace Sys2Proof.Machine

/-- MOV d,s (R120): the source is read before the destination is written. -/
def execMov (dst src : R8) (s : State) : Result := .next ((s.setR8 dst (s.getR8 src)).advance 1)

/-- MVI d,imm8 (R121). -/
def execMvi (dst : R8) (imm : Byte) (s : State) : Result := .next ((s.setR8 dst imm).advance 2)

/-- LXI rp,imm16 (R122). -/
def execLxi (rp : RP) (imm : Word) (s : State) : Result := .next ((s.setRP rp imm).advance 3)

/-- LDA addr16 (R123). -/
def execLda (addr : Word) (s : State) : Result := .next ({ s with a := s.readByte addr }.advance 3)

/-- STA addr16 (R124). -/
def execSta (addr : Word) (s : State) : Result := .next ((s.writeByte addr s.a).advance 3)

/-- LDAX rp (R125). -/
def execLdax (rp : IndexRP) (s : State) : Result := .next ({ s with a := s.readByte (s.pointer rp) }.advance 1)

/-- STAX rp (R126). -/
def execStax (rp : IndexRP) (s : State) : Result := .next ((s.writeByte (s.pointer rp) s.a).advance 1)

/-- LHLD addr16 (R127): L from `addr`, H from `addr + 1`. -/
def execLhld (addr : Word) (s : State) : Result := .next ((s.setRP .hl (s.readWord addr)).advance 3)

/-- SHLD addr16 (R128): L to `addr`, H to `addr + 1`, each subject to the window. -/
def execShld (addr : Word) (s : State) : Result := .next ((s.writeWord addr s.hl).advance 3)

/-- XCHG (R129): HL and DE swapped. -/
def execXchg (s : State) : Result := .next ({ s with h := s.d, l := s.e, d := s.h, e := s.l }.advance 1)

/-- XTHL (R130): the word at SP is read before HL is written there; SP is unchanged. -/
def execXthl (s : State) : Result := .next (((s.writeWord s.sp s.hl).setRP .hl (s.readWord s.sp)).advance 1)

/-- SPHL (R131). -/
def execSphl (s : State) : Result := .next ({ s with sp := s.hl }.advance 1)

/-- PCHL (R132): always a taken transfer of control. -/
def execPchl (s : State) : Result := .next (s.jump s.hl)

end Sys2Proof.Machine
end

