-- ==== Sys2Proof/Machine/Misc.lean ====
section
/-! DEFINITION. NOP, HLT, EI, DI, CMA, STC, CMC and the undocumented NOPs (47_misc.md R250 to R257). -/

namespace Sys2Proof.Machine

/-- NOP (R250). -/
def execNop (s : State) : Result := .next (s.advance 1)

/-- HLT (R251): PC stays at the value the step started with (92_eei_decisions.md D7). -/
def execHlt (s : State) : Result := .next { s with halted := true }

/-- EI (R252): only `ei_pending` is set; the enable reaches INTE in the next step that executes an instruction (R108). -/
def execEi (s : State) : Result := .next ({ s with eiPending := true }.advance 1)

/-- DI (R253): also cancels a pending EI (92_eei_decisions.md D9). -/
def execDi (s : State) : Result := .next ({ s with inte := false, eiPending := false }.advance 1)

/-- CMA (R254): no flag. -/
def execCma (s : State) : Result := .next ({ s with a := ~~~s.a }.advance 1)

/-- STC (R255). -/
def execStc (s : State) : Result := .next ({ s with flags := { s.flags with c := true } }.advance 1)

/-- CMC (R256). -/
def execCmc (s : State) : Result := .next ({ s with flags := { s.flags with c := !s.flags.c } }.advance 1)

/-- 0x08, 0x10, ..., 0x38 (R257): as NOP, whichever of the seven the opcode is. -/
def execNopUndoc (_k : BitVec 3) (s : State) : Result := .next (s.advance 1)

end Sys2Proof.Machine
end

