-- ==== Sys2Proof/Machine/PortIO.lean ====
section
/-! DEFINITION. IN and OUT (46_io.md R240, R241). -/

namespace Sys2Proof.Machine

/-- IN port (R240): an absent latch leaves A as it was; the latch is not cleared. -/
def execIn (port : Byte) (s : State) : Result := .next ({ s with a := (s.ioIn.get port).getD s.a }.advance 2)

/-- OUT port (R241): the latch holds A until the host clears it or another OUT overwrites it. -/
def execOut (port : Byte) (s : State) : Result := .next ({ s with ioOut := s.ioOut.set port s.a }.advance 2)

end Sys2Proof.Machine
end

