-- ==== Sys2Proof/Machine/Rotates.lean ====
section
/-! DEFINITION. The four rotates (43_rotates.md R180 to R183): A and C only, then `PC <- npc`. -/

namespace Sys2Proof.Machine

/-- A and C take a rotation's result; S, Z, A-flag and P stay. -/
def State.setRotated (s : State) (r : Byte × Bool) : State := { s with a := r.1, flags := { s.flags with c := r.2 } }

/-- RLC (R180). -/
def execRlc (s : State) : Result := .next ((s.setRotated (rotateLeft s.a)).advance 1)

/-- RRC (R181). -/
def execRrc (s : State) : Result := .next ((s.setRotated (rotateRight s.a)).advance 1)

/-- RAL (R182). -/
def execRal (s : State) : Result := .next ((s.setRotated (rotateLeftCarry s.a s.flags.c)).advance 1)

/-- RAR (R183). -/
def execRar (s : State) : Result := .next ((s.setRotated (rotateRightCarry s.a s.flags.c)).advance 1)

end Sys2Proof.Machine
end

