-- ==== Sys2Proof/Machine/Stack.lean ====
section
/-! DEFINITION. PUSH and POP (45_stack.md R232, R233). -/

namespace Sys2Proof.Machine

/-- The word PUSH pushes (R232); PSW is A above the flag byte (10_state.md R19). -/
def State.getStackRP (s : State) : StackRP → Word
  | .bc => joinBytes s.b s.c
  | .de => joinBytes s.d s.e
  | .hl => joinBytes s.h s.l
  | .psw => joinBytes s.a (flagByte s.flags)

/-- Where POP puts the popped word (R233). -/
def State.setStackRP (s : State) (rp : StackRP) (v : Word) : State :=
  match rp with
  | .bc => { s with b := hiByte v, c := loByte v }
  | .de => { s with d := hiByte v, e := loByte v }
  | .hl => { s with h := hiByte v, l := loByte v }
  | .psw => { s with a := hiByte v, flags := setFlagByte (loByte v) }

/-- PUSH rp (R232). -/
def execPush (rp : StackRP) (s : State) : Result := .next ((s.push16 (s.getStackRP rp)).advance 1)

/-- POP rp (R233). -/
def execPop (rp : StackRP) (s : State) : Result := .next ((s.dropTop.setStackRP rp s.stackTop).advance 1)

end Sys2Proof.Machine
end

