-- ==== Sys2Proof/Machine/Fsm.lean ====
section
/-! DEFINITION. The fetch-decode-execute FSM: the phases of one step (40_step_fsm.md R100 to R112; 60_exceptions.md R306, R309). -/

namespace Sys2Proof.Machine

/-- FETCH and DECODE (R104, R105, R107): the opcode at PC, then only as many of the bytes after it as its length asks for, all
before the instruction writes anything. -/
def fetchInstr (s : State) : Instr :=
  let op := s.readByte s.pc
  decodeOp op
    (if 2 ≤ opLength op then s.readByte (s.pc + 1) else 0)
    (if opLength op = 3 then s.readByte (s.pc + 2) else 0)

/-- The instruction in the interrupt slot (R306); the slot holds the opcode byte alone. -/
def slotInstr (s : State) : Instr := decodeOp s.intOpcode 0 0

/-- RETIRE (R111, R114): the wire `ack` does not survive the step. -/
def retire : Result → Result
  | .next t => .next { t with ack := false }
  | .fault r => .fault r
  | .refused r => .refused r

/-- Whether the ACK phase acknowledges (R102): on INTE as it stands at the start of the step, halted or not. -/
def State.acknowledges (s : State) : Bool := s.inte && s.intPending

/-- The state EXECUTE sees in a fetched step: `ack` is 0 and a pending EI has been promoted (R104, R108). -/
def State.beginFetched (s : State) : State := { s with ack := false }.promoteEi

/-- The state EXECUTE sees in an acknowledge step (R101, R306). -/
def State.beginAcknowledged (s : State) : State := s.acknowledge.promoteEi

/-- A step that fetches its instruction. -/
def runFetched (s : State) : Result := retire (exec (fetchInstr s) s.beginFetched)

/-- A step that acknowledges the interrupt slot; an opcode that needs operand bytes is refused (R309). -/
def runSlot (s : State) : Result :=
  if 1 < opLength s.intOpcode then .refused (.slotOperandsUnknown s.intOpcode)
  else retire (exec (slotInstr s) s.beginAcknowledged)

/-- The step (R101): acknowledge, or idle when halted (R103), or fetch. -/
def stepFsm (s : State) : Result :=
  if s.acknowledges then runSlot s
  else if s.halted then .next s
  else runFetched s

/-! ## Placing an instruction for the next step -/

/-- `Mem[a + k] <- bytes[k]`, addresses mod 2^16, the window ignored: the back-door load (20_memory.md R52). -/
def Memory.load (m : Memory) (a : Word) : List Byte → Memory
  | [] => m
  | v :: rest => Memory.load (m.write a v) (a + 1) rest

/-- `s` with the instruction whose bits are `w` at PC, and so that the next step fetches it: not halted, and with no request that
the ACK phase would take first. Log entry 6. -/
def placeInstr (s : State) (nbits w : Nat) : State :=
  { s with
    mem := Memory.load s.mem s.pc [tableByte nbits w 0, tableByte nbits w 1, tableByte nbits w 2]
    halted := false
    intPending := s.intPending && !s.inte }

end Sys2Proof.Machine
end

