-- ==== Sys2Proof/Machine/Step.lean ====
section
/-! DEFINITION. The machine's one transition, and how the host places an instruction for it. -/

namespace Sys2Proof.Machine

/-- One step (40_step_fsm.md R100, R101). -/
def step (s : State) : Host.Outcome State Fault Refusal := stepFsm s

/-- `s` with the instruction whose bits are `w` stored where `step` fetches next. -/
def State.withFetchWord (s : State) (nbits w : Nat) : State := placeInstr s nbits w

end Sys2Proof.Machine
end

