-- ==== Sys2Proof/Machine/Cycles.lean ====
section
/-! DEFINITION. The cycle count, the step's second output (40_step_fsm.md R110; 70_reset_and_hazards.md R351 to R354). It is not
state (10_state.md R31): no meaning and no phase of the step reads it. -/

namespace Sys2Proof.Machine

/-- One count for a register operand, another for M. -/
def cyclesM (r : R8) (register memory : Nat) : Nat := if r = .m then memory else register

/-- One count for a condition that holds, another for one that does not. -/
def cyclesCond (cond : Cond) (s : State) (taken notTaken : Nat) : Nat :=
  if condHolds s.flags cond then taken else notTaken

/-- The cycle table (R352). The count depends on the opcode and, for Ccc and Rcc only, on the condition (R354). -/
def cycles (i : Instr) (s : State) : Nat :=
  match i with
  | .mov dst src => if dst = .m ∨ src = .m then 7 else 5
  | .mvi dst _ => cyclesM dst 7 10
  | .lxi _ _ => 10
  | .lda _ => 13
  | .sta _ => 13
  | .ldax _ => 7
  | .stax _ => 7
  | .lhld _ => 16
  | .shld _ => 16
  | .xchg => 4
  | .xthl => 18
  | .sphl => 5
  | .pchl => 5
  | .add r | .adc r | .sub r | .sbb r | .ana r | .xra r | .ora r | .cmp r => cyclesM r 4 7
  | .adi _ | .aci _ | .sui _ | .sbi _ | .ani _ | .xri _ | .ori _ | .cpi _ => 7
  | .inr dst => cyclesM dst 5 10
  | .dcr dst => cyclesM dst 5 10
  | .dad _ => 10
  | .inx _ => 5
  | .dcx _ => 5
  | .daa => 4
  | .rlc | .rrc | .ral | .rar => 4
  | .jmp _ => 10
  | .jnz _ | .jz _ | .jnc _ | .jc _ | .jpo _ | .jpe _ | .jp _ | .jm _ => 10
  | .call _ => 17
  | .cnz _ => cyclesCond .nz s 17 11
  | .cz _ => cyclesCond .z s 17 11
  | .cnc _ => cyclesCond .nc s 17 11
  | .cc _ => cyclesCond .c s 17 11
  | .cpo _ => cyclesCond .po s 17 11
  | .cpe _ => cyclesCond .pe s 17 11
  | .cp _ => cyclesCond .p s 17 11
  | .cm _ => cyclesCond .m s 17 11
  | .ret => 10
  | .rnz => cyclesCond .nz s 11 5
  | .rz => cyclesCond .z s 11 5
  | .rnc => cyclesCond .nc s 11 5
  | .rc => cyclesCond .c s 11 5
  | .rpo => cyclesCond .po s 11 5
  | .rpe => cyclesCond .pe s 11 5
  | .rp => cyclesCond .p s 11 5
  | .rm => cyclesCond .m s 11 5
  | .rst _ => 11
  | .push _ => 11
  | .pop _ => 10
  | .inp _ => 10
  | .outp _ => 10
  | .nop => 4
  | .hlt => 7
  | .ei => 4
  | .di => 4
  | .cma => 4
  | .stc => 4
  | .cmc => 4
  | .nopUndoc _ => 4
  | .jmpUndoc _ => 10
  | .retUndoc => 10
  | .callUndoc _ _ => 17

/-- The count a step reports: in an acknowledge step the slot opcode's, with nothing added (60_exceptions.md R311); in an idle
step the open parameter (R103); `none` when the step is refused. -/
def stepCycles (s : State) : Option (BitVec 32) :=
  if s.acknowledges then
    if 1 < opLength s.intOpcode then none
    else some (BitVec.ofNat 32 (cycles (slotInstr s) s.beginAcknowledged))
  else if s.halted then some Config.haltIdleCycles
  else some (BitVec.ofNat 32 (cycles (fetchInstr s) s.beginFetched))

/-- The step with both its outputs, the new state and `cycles` (R100). -/
def stepReport (s : State) : Host.Outcome (State × BitVec 32) Fault Refusal :=
  match step s, stepCycles s with
  | .next t, n => .next (t, n.getD 0)
  | .fault r, _ => .fault r
  | .refused r, _ => .refused r

end Sys2Proof.Machine
end

