-- ==== Sys2Proof/Machine/Disassembler.lean ====
section
/-! DEFINITION. The disassembler (48_disassembler.md R270 to R279): a pure function of three bytes, no state. Its text comes from
the decoded instruction, so it can never disagree with the executor about which instruction a byte is (R282). -/

namespace Sys2Proof.Machine

/-! ## Numbers and names -/

/-- One lower-case hexadecimal digit (R271). -/
def hexDigit (n : BitVec 4) : Char :=
  if n.toNat < 10 then Char.ofNat (48 + n.toNat) else Char.ofNat (87 + n.toNat)

/-- The two digits of a byte, high nibble first. -/
def hexDigits (v : Byte) : List Char := [hexDigit (v.extractLsb' 4 4), hexDigit (v.extractLsb' 0 4)]

/-- An 8-bit operand: `$` and two digits (R271). -/
def hex8 (v : Byte) : String := String.ofList ('$' :: hexDigits v)

/-- A 16-bit operand: `$` and four digits, high byte first (R271). -/
def hex16 (v : Word) : String := String.ofList ('$' :: (hexDigits (hiByte v) ++ hexDigits (loByte v)))

/-- The restart number, one decimal digit with no `$` (R271, R277). -/
def restartDigit (n : BitVec 3) : String := String.ofList [Char.ofNat (48 + n.toNat)]

/-- Register letters (R273). -/
def r8Name : R8 → String
  | .b => "B"
  | .c => "C"
  | .d => "D"
  | .e => "E"
  | .h => "H"
  | .l => "L"
  | .m => "M"
  | .a => "A"

/-- Pair names (R275). -/
def rpName : RP → String
  | .bc => "B"
  | .de => "D"
  | .hl => "H"
  | .sp => "SP"

/-- Pair names of PUSH and POP (R275). -/
def stackRPName : StackRP → String
  | .bc => "B"
  | .de => "D"
  | .hl => "H"
  | .psw => "PSW"

/-- Pair names of LDAX and STAX (R275). -/
def indexRPName : IndexRP → String
  | .bc => "B"
  | .de => "D"

/-! ## The text -/

/-- The text of an instruction (R272 to R277); an undocumented opcode prints as its alias (R278). -/
def instrText : Instr → String
  | .mov dst src => "MOV " ++ r8Name dst ++ "," ++ r8Name src
  | .mvi dst imm => "MVI " ++ r8Name dst ++ "," ++ hex8 imm
  | .lxi rp imm => "LXI " ++ rpName rp ++ "," ++ hex16 imm
  | .lda addr => "LDA " ++ hex16 addr
  | .sta addr => "STA " ++ hex16 addr
  | .ldax rp => "LDAX " ++ indexRPName rp
  | .stax rp => "STAX " ++ indexRPName rp
  | .lhld addr => "LHLD " ++ hex16 addr
  | .shld addr => "SHLD " ++ hex16 addr
  | .xchg => "XCHG"
  | .xthl => "XTHL"
  | .sphl => "SPHL"
  | .pchl => "PCHL"
  | .add r => "ADD " ++ r8Name r
  | .adi imm => "ADI " ++ hex8 imm
  | .adc r => "ADC " ++ r8Name r
  | .aci imm => "ACI " ++ hex8 imm
  | .sub r => "SUB " ++ r8Name r
  | .sui imm => "SUI " ++ hex8 imm
  | .sbb r => "SBB " ++ r8Name r
  | .sbi imm => "SBI " ++ hex8 imm
  | .ana r => "ANA " ++ r8Name r
  | .ani imm => "ANI " ++ hex8 imm
  | .xra r => "XRA " ++ r8Name r
  | .xri imm => "XRI " ++ hex8 imm
  | .ora r => "ORA " ++ r8Name r
  | .ori imm => "ORI " ++ hex8 imm
  | .cmp r => "CMP " ++ r8Name r
  | .cpi imm => "CPI " ++ hex8 imm
  | .inr dst => "INR " ++ r8Name dst
  | .dcr dst => "DCR " ++ r8Name dst
  | .dad rp => "DAD " ++ rpName rp
  | .inx rp => "INX " ++ rpName rp
  | .dcx rp => "DCX " ++ rpName rp
  | .daa => "DAA"
  | .rlc => "RLC"
  | .rrc => "RRC"
  | .ral => "RAL"
  | .rar => "RAR"
  | .jmp addr => "JMP " ++ hex16 addr
  | .jnz addr => "JNZ " ++ hex16 addr
  | .jz addr => "JZ " ++ hex16 addr
  | .jnc addr => "JNC " ++ hex16 addr
  | .jc addr => "JC " ++ hex16 addr
  | .jpo addr => "JPO " ++ hex16 addr
  | .jpe addr => "JPE " ++ hex16 addr
  | .jp addr => "JP " ++ hex16 addr
  | .jm addr => "JM " ++ hex16 addr
  | .call addr => "CALL " ++ hex16 addr
  | .cnz addr => "CNZ " ++ hex16 addr
  | .cz addr => "CZ " ++ hex16 addr
  | .cnc addr => "CNC " ++ hex16 addr
  | .cc addr => "CC " ++ hex16 addr
  | .cpo addr => "CPO " ++ hex16 addr
  | .cpe addr => "CPE " ++ hex16 addr
  | .cp addr => "CP " ++ hex16 addr
  | .cm addr => "CM " ++ hex16 addr
  | .ret => "RET"
  | .rnz => "RNZ"
  | .rz => "RZ"
  | .rnc => "RNC"
  | .rc => "RC"
  | .rpo => "RPO"
  | .rpe => "RPE"
  | .rp => "RP"
  | .rm => "RM"
  | .rst n => "RST " ++ restartDigit n
  | .push rp => "PUSH " ++ stackRPName rp
  | .pop rp => "POP " ++ stackRPName rp
  | .inp port => "IN " ++ hex8 port
  | .outp port => "OUT " ++ hex8 port
  | .nop => "NOP"
  | .hlt => "HLT"
  | .ei => "EI"
  | .di => "DI"
  | .cma => "CMA"
  | .stc => "STC"
  | .cmc => "CMC"
  | .nopUndoc _ => "NOP"
  | .jmpUndoc addr => "JMP " ++ hex16 addr
  | .retUndoc => "RET"
  | .callUndoc _ addr => "CALL " ++ hex16 addr

/-- `disassemble(opcode, byte1, byte2)` (R270): the text and the length, defined for all three bytes whatever they are (R279). The
length is the step's own `Length(op)`. -/
def disassemble (op b1 b2 : Byte) : String × Nat := (instrText (decodeOp op b1 b2), opLength op)

end Sys2Proof.Machine
end

