-- ==== Sys2Proof/Machine/Frames.lean ====
section
/-! DEFINITION. What each instruction may write, as data: the vocabulary of the frame statements. It follows the spec's frame rule
(92_eei_decisions.md D23), the flag table R169 and the family invariants R133, R171, R222, R243, R259. -/

namespace Sys2Proof.Machine

/-- The two addresses `Push16` stores to: `SP - 2` and the one above it (45_stack.md R230). -/
def State.pushSlot (s : State) : List Word := [s.sp - 2, s.sp - 2 + 1]

/-- The stack slot of a conditional call, if it is taken (44_control_flow.md R224). -/
def State.pushSlotIf (s : State) (cond : Cond) : List Word := if condHolds s.flags cond then s.pushSlot else []

/-- The operand's address when it is M, nothing when it is a register (10_state.md R12). -/
def State.operandSlot (s : State) (r : R8) : List Word := if r = .m then [s.hl] else []

/-- The addresses an instruction stores to, computed as its meaning computes them. -/
def storedBytes (i : Instr) (s : State) : List Word :=
  match i with
  | .mov dst _ => s.operandSlot dst
  | .mvi dst _ => s.operandSlot dst
  | .inr dst => s.operandSlot dst
  | .dcr dst => s.operandSlot dst
  | .sta addr => [addr]
  | .stax rp => [s.pointer rp]
  | .shld addr => [addr, addr + 1]
  | .xthl => [s.sp, s.sp + 1]
  | .call _ => s.pushSlot
  | .cnz _ => s.pushSlotIf .nz
  | .cz _ => s.pushSlotIf .z
  | .cnc _ => s.pushSlotIf .nc
  | .cc _ => s.pushSlotIf .c
  | .cpo _ => s.pushSlotIf .po
  | .cpe _ => s.pushSlotIf .pe
  | .cp _ => s.pushSlotIf .p
  | .cm _ => s.pushSlotIf .m
  | .rst _ => s.pushSlot
  | .callUndoc _ _ => s.pushSlot
  | .push _ => s.pushSlot
  | .lxi _ _ | .lda _ | .ldax _ | .lhld _ | .xchg | .sphl | .pchl | .add _ | .adi _ | .adc _ | .aci _ | .sub _ | .sui _
  | .sbb _ | .sbi _ | .ana _ | .ani _ | .xra _ | .xri _ | .ora _ | .ori _ | .cmp _ | .cpi _ | .dad _ | .inx _ | .dcx _
  | .daa | .rlc | .rrc | .ral | .rar | .jmp _ | .jnz _ | .jz _ | .jnc _ | .jc _ | .jpo _ | .jpe _ | .jp _ | .jm _
  | .ret | .rnz | .rz | .rnc | .rc | .rpo | .rpe | .rp | .rm | .pop _ | .inp _ | .outp _ | .nop | .hlt | .ei | .di
  | .cma | .stc | .cmc | .nopUndoc _ | .jmpUndoc _ | .retUndoc => []

/-- The two registers of a pair; SP is not one of the eight operand codes. -/
def rpRegs : RP → List R8
  | .bc => [.b, .c]
  | .de => [.d, .e]
  | .hl => [.h, .l]
  | .sp => []

/-- The registers POP writes (R233). -/
def stackRPRegs : StackRP → List R8
  | .bc => [.b, .c]
  | .de => [.d, .e]
  | .hl => [.h, .l]
  | .psw => [.a]

/-- The general registers an instruction may write. (`m` in the list stands for a memory destination, which `storedBytes` has.) -/
def writtenRegs : Instr → List R8
  | .mov dst _ | .mvi dst _ | .inr dst | .dcr dst => [dst]
  | .lxi rp _ | .inx rp | .dcx rp => rpRegs rp
  | .lda _ | .ldax _ | .inp _ | .cma | .daa | .rlc | .rrc | .ral | .rar => [.a]
  | .add _ | .adi _ | .adc _ | .aci _ | .sub _ | .sui _ | .sbb _ | .sbi _ => [.a]
  | .ana _ | .ani _ | .xra _ | .xri _ | .ora _ | .ori _ => [.a]
  | .lhld _ | .xthl | .dad _ => [.h, .l]
  | .xchg => [.h, .l, .d, .e]
  | .pop rp => stackRPRegs rp
  | .sta _ | .stax _ | .shld _ | .sphl | .pchl | .cmp _ | .cpi _ | .jmp _ | .jnz _ | .jz _ | .jnc _ | .jc _ | .jpo _
  | .jpe _ | .jp _ | .jm _ | .call _ | .cnz _ | .cz _ | .cnc _ | .cc _ | .cpo _ | .cpe _ | .cp _ | .cm _ | .ret | .rnz
  | .rz | .rnc | .rc | .rpo | .rpe | .rp | .rm | .rst _ | .push _ | .outp _ | .nop | .hlt | .ei | .di | .stc | .cmc
  | .nopUndoc _ | .jmpUndoc _ | .retUndoc | .callUndoc _ _ => []

/-- All five flags. -/
def allFlags : Flags := { s := true, z := true, a := true, p := true, c := true }

/-- No flag. -/
def noFlags : Flags := { s := false, z := false, a := false, p := false, c := false }

/-- The flags an instruction writes, true where it writes one (R169 and the flag lines of the other rules). -/
def writtenFlags : Instr → Flags
  | .add _ | .adi _ | .adc _ | .aci _ | .sub _ | .sui _ | .sbb _ | .sbi _ | .cmp _ | .cpi _ | .ana _ | .ani _ | .xra _ | .xri _
  | .ora _ | .ori _ | .daa => allFlags
  | .pop rp => if rp = .psw then allFlags else noFlags
  | .inr _ | .dcr _ => { allFlags with c := false }
  | .dad _ | .rlc | .rrc | .ral | .rar | .stc | .cmc => { noFlags with c := true }
  | .mov _ _ | .mvi _ _ | .lxi _ _ | .lda _ | .sta _ | .ldax _ | .stax _ | .lhld _ | .shld _ | .xchg | .xthl | .sphl
  | .pchl | .inx _ | .dcx _ | .jmp _ | .jnz _ | .jz _ | .jnc _ | .jc _ | .jpo _ | .jpe _ | .jp _ | .jm _ | .call _
  | .cnz _ | .cz _ | .cnc _ | .cc _ | .cpo _ | .cpe _ | .cp _ | .cm _ | .ret | .rnz | .rz | .rnc | .rc | .rpo | .rpe
  | .rp | .rm | .rst _ | .push _ | .inp _ | .outp _ | .nop | .hlt | .ei | .di | .cma | .nopUndoc _ | .jmpUndoc _
  | .retUndoc | .callUndoc _ _ => noFlags

/-- What an instruction adds to SP, for the instructions whose SP moves by a fixed amount: pushes -2, pops 2, others 0 (R222). The
three that write SP otherwise, LXI SP, SPHL and INX or DCX SP, are `writesSpFreely`. -/
def spDelta (i : Instr) (s : State) : Word :=
  let callIf (cond : Cond) : Word := if condHolds s.flags cond then -2 else 0
  let retIf (cond : Cond) : Word := if condHolds s.flags cond then 2 else 0
  match i with
  | .call _ | .callUndoc _ _ | .rst _ | .push _ => -2
  | .ret | .retUndoc | .pop _ => 2
  | .cnz _ => callIf .nz
  | .cz _ => callIf .z
  | .cnc _ => callIf .nc
  | .cc _ => callIf .c
  | .cpo _ => callIf .po
  | .cpe _ => callIf .pe
  | .cp _ => callIf .p
  | .cm _ => callIf .m
  | .rnz => retIf .nz
  | .rz => retIf .z
  | .rnc => retIf .nc
  | .rc => retIf .c
  | .rpo => retIf .po
  | .rpe => retIf .pe
  | .rp => retIf .p
  | .rm => retIf .m
  | .mov _ _ | .mvi _ _ | .lxi _ _ | .lda _ | .sta _ | .ldax _ | .stax _ | .lhld _ | .shld _ | .xchg | .xthl | .sphl
  | .pchl | .add _ | .adi _ | .adc _ | .aci _ | .sub _ | .sui _ | .sbb _ | .sbi _ | .ana _ | .ani _ | .xra _ | .xri _
  | .ora _ | .ori _ | .cmp _ | .cpi _ | .inr _ | .dcr _ | .dad _ | .inx _ | .dcx _ | .daa | .rlc | .rrc | .ral | .rar
  | .jmp _ | .jnz _ | .jz _ | .jnc _ | .jc _ | .jpo _ | .jpe _ | .jp _ | .jm _ | .inp _ | .outp _ | .nop | .hlt | .ei
  | .di | .cma | .stc | .cmc | .nopUndoc _ | .jmpUndoc _ => 0

/-- The instructions that give SP a new value: LXI SP, INX SP, DCX SP, SPHL (10_state.md R16). -/
def writesSpFreely : Instr → Bool
  | .lxi rp _ | .inx rp | .dcx rp => decide (rp = .sp)
  | .sphl => true
  | .mov _ _ | .mvi _ _ | .lda _ | .sta _ | .ldax _ | .stax _ | .lhld _ | .shld _ | .xchg | .xthl | .pchl | .add _
  | .adi _ | .adc _ | .aci _ | .sub _ | .sui _ | .sbb _ | .sbi _ | .ana _ | .ani _ | .xra _ | .xri _ | .ora _ | .ori _
  | .cmp _ | .cpi _ | .inr _ | .dcr _ | .dad _ | .daa | .rlc | .rrc | .ral | .rar | .jmp _ | .jnz _ | .jz _ | .jnc _
  | .jc _ | .jpo _ | .jpe _ | .jp _ | .jm _ | .call _ | .cnz _ | .cz _ | .cnc _ | .cc _ | .cpo _ | .cpe _ | .cp _
  | .cm _ | .ret | .rnz | .rz | .rnc | .rc | .rpo | .rpe | .rp | .rm | .rst _ | .push _ | .pop _ | .inp _ | .outp _
  | .nop | .hlt | .ei | .di | .cma | .stc | .cmc | .nopUndoc _ | .jmpUndoc _ | .retUndoc | .callUndoc _ _ => false

/-- Whether PC is set by the instruction's own rule and not by the default `PC <- npc` (40_step_fsm.md R109): the taken control
transfers and HLT. -/
def setsPc (i : Instr) (s : State) : Bool :=
  match i with
  | .jmp _ | .jmpUndoc _ | .call _ | .callUndoc _ _ | .ret | .retUndoc | .rst _ | .pchl | .hlt => true
  | .jnz _ => condHolds s.flags .nz
  | .jz _ => condHolds s.flags .z
  | .jnc _ => condHolds s.flags .nc
  | .jc _ => condHolds s.flags .c
  | .jpo _ => condHolds s.flags .po
  | .jpe _ => condHolds s.flags .pe
  | .jp _ => condHolds s.flags .p
  | .jm _ => condHolds s.flags .m
  | .cnz _ => condHolds s.flags .nz
  | .cz _ => condHolds s.flags .z
  | .cnc _ => condHolds s.flags .nc
  | .cc _ => condHolds s.flags .c
  | .cpo _ => condHolds s.flags .po
  | .cpe _ => condHolds s.flags .pe
  | .cp _ => condHolds s.flags .p
  | .cm _ => condHolds s.flags .m
  | .rnz => condHolds s.flags .nz
  | .rz => condHolds s.flags .z
  | .rnc => condHolds s.flags .nc
  | .rc => condHolds s.flags .c
  | .rpo => condHolds s.flags .po
  | .rpe => condHolds s.flags .pe
  | .rp => condHolds s.flags .p
  | .rm => condHolds s.flags .m
  | .mov _ _ | .mvi _ _ | .lxi _ _ | .lda _ | .sta _ | .ldax _ | .stax _ | .lhld _ | .shld _ | .xchg | .xthl | .sphl
  | .add _ | .adi _ | .adc _ | .aci _ | .sub _ | .sui _ | .sbb _ | .sbi _ | .ana _ | .ani _ | .xra _ | .xri _ | .ora _
  | .ori _ | .cmp _ | .cpi _ | .inr _ | .dcr _ | .dad _ | .inx _ | .dcx _ | .daa | .rlc | .rrc | .ral | .rar | .push _
  | .pop _ | .inp _ | .outp _ | .nop | .ei | .di | .cma | .stc | .cmc | .nopUndoc _ => false

end Sys2Proof.Machine
end

