-- ==== Sys2Proof/Machine/HostInterface.lean ====
section
/-! DEFINITION. What the host may do to the core, always between steps (60_exceptions.md R318; 20_memory.md R51 to R56, R58). Each
operation is a function on State; the ones the spec refuses answer a refusal. The host has no operation on `halted` or
`ei_pending` (R318; 91_not_in_source.md N7), and none that acts during a step (92_eei_decisions.md D17). -/

namespace Sys2Proof.Machine

/-! ## Memory and the read-only window -/

/-- `HostLoad(origin, bytes)`, the back-door load (R52): it bypasses the window, wraps at 65,536, and later bytes win. -/
def hostLoad (s : State) (origin : Word) (bytes : List Byte) : State :=
  { s with mem := Memory.load s.mem origin bytes }

/-- `read_byte` (R51). -/
def hostReadByte (s : State) (a : Word) : Byte := s.readByte a

/-- `read_word` (R51). -/
def hostReadWord (s : State) (a : Word) : Word := s.readWord a

/-- `write_byte` (R51): subject to the window, as the core's own writes are. -/
def hostWriteByte (s : State) (a : Word) (v : Byte) : State := s.writeByte a v

/-- `write_word` (R51). -/
def hostWriteWord (s : State) (a : Word) (v : Word) : State := s.writeWord a v

/-- `set_romspace(lo, hi)` (R53): it replaces any earlier window and leaves memory alone; `lo > hi` is refused (D3). -/
def hostSetRomspace (s : State) (lo hi : Word) : Result :=
  if hi < lo then .refused (.romBoundsReversed lo hi) else .next { s with rom := some { lo := lo, hi := hi } }

/-- `clear_romspace()` (R53). -/
def hostClearRomspace (s : State) : State := { s with rom := none }

/-! ## Registers (R318) -/

/-- Byte access by 3-bit index; index 6 is the memory byte at HL, subject to the window (10_state.md R13). -/
def hostReadR8 (s : State) (r : R8) : Byte := s.getR8 r

/-- Byte access by 3-bit index. -/
def hostWriteR8 (s : State) (r : R8) (v : Byte) : State := s.setR8 r v

/-- Pair access by 2-bit index (10_state.md R15). -/
def hostReadRP (s : State) (rp : RP) : Word := s.getRP rp

/-- Pair access by 2-bit index. -/
def hostWriteRP (s : State) (rp : RP) (v : Word) : State := s.setRP rp v

/-- Named access to PC. -/
def hostSetPc (s : State) (v : Word) : State := { s with pc := v }

/-- Named access to SP. -/
def hostSetSp (s : State) (v : Word) : State := { s with sp := v }

/-- Named access to A. -/
def hostSetA (s : State) (v : Byte) : State := { s with a := v }

/-- Named access to INTE (R303). -/
def hostSetInte (s : State) (v : Bool) : State := { s with inte := v }

/-- The flags are fields of the CPU aggregate, so the host may write them (R318). -/
def hostSetFlags (s : State) (f : Flags) : State := { s with flags := f }

/-! ## The interrupt slot -/

/-- `int = (true, opcode_byte)` (R302): one slot, so a request not yet taken is replaced (R304). -/
def hostRequestInterrupt (s : State) (op : Byte) : State := { s with intPending := true, intOpcode := op }

/-- The host withdraws a request before it is taken (R303). -/
def hostWithdrawInterrupt (s : State) : State := { s with intPending := false }

/-! ## The port latches (20_memory.md R55, R56) -/

/-- `set_io_in(port, v)`. -/
def hostSetIoIn (s : State) (port v : Byte) : State := { s with ioIn := s.ioIn.set port v }

/-- `get_io_in(port)`. -/
def hostGetIoIn (s : State) (port : Byte) : Option Byte := s.ioIn.get port

/-- `clear_io_in(port)`. -/
def hostClearIoIn (s : State) (port : Byte) : State := { s with ioIn := s.ioIn.clear port }

/-- `set_io_out(port, v)`. -/
def hostSetIoOut (s : State) (port v : Byte) : State := { s with ioOut := s.ioOut.set port v }

/-- `get_io_out(port)`. -/
def hostGetIoOut (s : State) (port : Byte) : Option Byte := s.ioOut.get port

/-- `clear_io_out(port)`. -/
def hostClearIoOut (s : State) (port : Byte) : State := { s with ioOut := s.ioOut.clear port }

end Sys2Proof.Machine
end

