-- ==== Sys2Proof/Safety.lean ====
section
/-! DEFINITION. What counts as a good state and a safe step, in the terms the claims use. -/

namespace Sys2Proof.Machine

/-- The window's bounds are in order (20_memory.md R48: `lo ≤ hi`). -/
abbrev State.romOrdered (s : State) : Prop := ∀ w ∈ s.rom, w.lo ≤ w.hi

/-- The invariant of states between steps: memory and both latch arrays in canonical form, the window's bounds in order, and the
model's wire `ack` back at 0. -/
abbrev State.Inv (s : State) : Prop :=
  Memory.wf s.mem ∧ Latches.wf s.ioIn ∧ Latches.wf s.ioOut ∧ s.romOrdered ∧ s.ack = false

/-- Whether the step is given no meaning: it would acknowledge a slot opcode that needs operand bytes (60_exceptions.md R309). -/
def State.stepRefused (s : State) : Bool := s.acknowledges && decide (1 < opLength s.intOpcode)

/-- What an instruction rule of files 41 to 47 says of one instruction: its bytes, that it runs from `s` to the next state `t`, and
the cycle count it reports. -/
def RunsAs (i : Instr) (bytes : List Byte) (s t : State) (n : Nat) : Prop :=
  encode i = bytes ∧ exec i s = .next t ∧ cycles i s = n

/-- The number of 1 bits of a byte. -/
def onesCount (v : Byte) : Nat := (List.range 8).countP (fun k => v.getLsbD k)

/-- The state after, where there is one. -/
def after : Result → Option State
  | .next t => some t
  | .fault _ => none
  | .refused _ => none

end Sys2Proof.Machine
end

