-- ==== Sys2Proof/Certificates/Slice0/Obligations.lean ====
section
/-! DEFINITION. The statements for the provers, each from the numbered rules of spec/. No statement is about a program. The machine
raises no exception (60_exceptions.md R300), so a meaning's result statement is `exec i s = .next t` for every state, and that
equation, `t` written out as `s` with the fields the rule writes, is its frame as well. -/

open Sys2Proof Sys2Proof.Machine

/-! ## Encoding -/

/-- R70, R83, R84: every well-formed instruction is read back from its bytes, whatever follows them. -/
def Obligations.DecodeOfEncode : Prop :=
  ∀ (i : Instr) (rest : List Byte), i.wellFormed = true → decode (encode i ++ rest) = .ok (i, rest)

/-- Every opcode byte decodes to a well-formed instruction (R84). That its encoding is the bytes read, so that no two byte
sequences are one instruction and no bit of one is dropped, is the model's own choice (log entry 16): it gives the undocumented
opcodes constructors of their own, where by R76 and R86 more than one opcode is NOP, JMP, RET or CALL. -/
def Obligations.EncodeOfDecode : Prop :=
  ∀ op b1 b2 : Byte,
    (decodeOp op b1 b2).wellFormed = true ∧ encode (decodeOp op b1 b2) = [op, b1, b2].take (opLength op)

/-- R77 to R80: words written out from the opcode map, one of each family. -/
def Obligations.MapWordsDecode : Prop :=
  decodeTableWord 8 0x46 = some (.mov .b .m) ∧ decodeTableWord 24 0x123421 = some (.lxi .hl 0x1234) ∧
  decodeTableWord 8 0x9E = some (.sbb .m) ∧ decodeTableWord 16 0x0AFE = some (.cpi 0x0A) ∧
  decodeTableWord 8 0x39 = some (.dad .sp) ∧ decodeTableWord 8 0x1F = some .rar ∧
  decodeTableWord 24 0x0102C2 = some (.jnz 0x0102) ∧ decodeTableWord 8 0xCF = some (.rst 1) ∧
  decodeTableWord 8 0xF5 = some (.push .psw) ∧ decodeTableWord 16 0x01D3 = some (.outp 0x01) ∧
  decodeTableWord 8 0x76 = some .hlt ∧ decodeTableWord 24 0x0200ED = some (.callUndoc 2 0x0200)

/-- R83, R91: the length is a function of the opcode byte alone and is the decoded instruction's; 30, 18 and 208 opcodes have
three, two and one bytes. -/
def Obligations.LengthFromOpcode : Prop :=
  (∀ op b1 b2 : Byte, (decodeOp op b1 b2).length = opLength op) ∧
  (List.range 256).countP (fun n => opLength (BitVec.ofNat 8 n) == 3) = 30 ∧
  (List.range 256).countP (fun n => opLength (BitVec.ofNat 8 n) == 2) = 18 ∧
  (List.range 256).countP (fun n => opLength (BitVec.ofNat 8 n) == 1) = 208

/-- R86: the parameter `UNDOC_AS_NOP` changes five opcodes and no other: they become one-byte NOPs. The spec decides the parameter
(92_eei_decisions.md D12; log entry 2). -/
def Obligations.UndocParameterChangesFive : Prop :=
  ∀ op b1 b2 : Byte,
    (op ∈ ([0xCB, 0xD9, 0xDD, 0xED, 0xFD] : List Byte) → decodeOpWith true op b1 b2 = .nop ∧ opLengthWith true op = 1) ∧
    (op ∉ ([0xCB, 0xD9, 0xDD, 0xED, 0xFD] : List Byte) →
      decodeOpWith true op b1 b2 = decodeOpWith false op b1 b2 ∧ opLengthWith true op = opLengthWith false op)

/-! ## Operands, flags, memory -/

/-- R11, R13: the 3-bit code, and reading and writing the operand it names. -/
def Obligations.OperandCodeAccess : Prop :=
  ([0, 1, 2, 3, 4, 5, 6, 7] : List (BitVec 3)).map R8.ofCode = [.b, .c, .d, .e, .h, .l, .m, .a] ∧
  ∀ (s : State) (v : Byte),
    s.getR8 .b = s.b ∧ s.getR8 .c = s.c ∧ s.getR8 .d = s.d ∧ s.getR8 .e = s.e ∧ s.getR8 .h = s.h ∧
    s.getR8 .l = s.l ∧ s.getR8 .a = s.a ∧ s.getR8 .m = s.readByte (joinBytes s.h s.l) ∧
    s.setR8 .b v = { s with b := v } ∧ s.setR8 .c v = { s with c := v } ∧ s.setR8 .d v = { s with d := v } ∧
    s.setR8 .e v = { s with e := v } ∧ s.setR8 .h v = { s with h := v } ∧ s.setR8 .l v = { s with l := v } ∧
    s.setR8 .a v = { s with a := v } ∧ s.setR8 .m v = s.writeByte (joinBytes s.h s.l) v ∧
    (s.inRom (joinBytes s.h s.l) = true → s.setR8 .m v = s)

/-- R14, R15: the 2-bit code, and the pairs as views of their registers. That the first-named one is high is the spec's own
decision (92_eei_decisions.md D6). -/
def Obligations.PairCodeViews : Prop :=
  ([0, 1, 2, 3] : List (BitVec 2)).map RP.ofCode = [.bc, .de, .hl, .sp] ∧
  ([0, 1, 2, 3] : List (BitVec 2)).map StackRP.ofCode = [.bc, .de, .hl, .psw] ∧
  (∀ hi lo : Byte, (joinBytes hi lo).toNat = 256 * hi.toNat + lo.toNat) ∧
  ∀ (s : State) (v : Word),
    s.getRP .bc = joinBytes s.b s.c ∧ s.getRP .de = joinBytes s.d s.e ∧ s.getRP .hl = joinBytes s.h s.l ∧
    s.getRP .sp = s.sp ∧
    s.setRP .bc v = { s with b := BitVec.ofNat 8 (v.toNat / 256), c := BitVec.ofNat 8 v.toNat } ∧
    s.setRP .de v = { s with d := BitVec.ofNat 8 (v.toNat / 256), e := BitVec.ofNat 8 v.toNat } ∧
    s.setRP .hl v = { s with h := BitVec.ofNat 8 (v.toNat / 256), l := BitVec.ofNat 8 v.toNat } ∧
    s.setRP .sp v = { s with sp := v } ∧ ∀ rp, (s.setRP rp v).getRP rp = v

/-- R19: the flag byte S Z 0 A 0 P 1 C, its inverse, and PSW. That A is the high byte of PSW is the spec's own decision
(92_eei_decisions.md D6). -/
def Obligations.FlagByteLayout : Prop :=
  (∀ f : Flags,
    (flagByte f).toNat =
      128 * f.s.toNat + 64 * f.z.toNat + 16 * f.a.toNat + 4 * f.p.toNat + 2 + f.c.toNat ∧
    (flagByte f).getLsbD 5 = false ∧ (flagByte f).getLsbD 3 = false ∧ (flagByte f).getLsbD 1 = true ∧
    setFlagByte (flagByte f) = f) ∧
  (∀ v : Byte,
    (setFlagByte v).s = v.getLsbD 7 ∧ (setFlagByte v).z = v.getLsbD 6 ∧ (setFlagByte v).a = v.getLsbD 4 ∧
    (setFlagByte v).p = v.getLsbD 2 ∧ (setFlagByte v).c = v.getLsbD 0 ∧
    flagByte (setFlagByte v) = (v &&& 0xD5) ||| 0x02) ∧
  ∀ s : State, s.getStackRP .psw = joinBytes s.a (flagByte s.flags)

/-- R140, R141: AddFlags, on exact sums. That S, Z and P follow R140 where a remark of R349 and R18 denies a result that R140 gives
is the model's choice (log entry 24). -/
def Obligations.AddFlagsArithmetic : Prop :=
  ∀ (f : Flags) (x y : Byte) (cin : Bool),
    (addFlags f x y cin).1 = x + y + BitVec.ofNat 8 cin.toNat ∧
    (addFlags f x y cin).2 =
      { s := (addFlags f x y cin).1.msb
        z := decide ((addFlags f x y cin).1 = 0)
        a := decide (16 ≤ x.toNat % 16 + y.toNat % 16 + cin.toNat)
        p := decide (onesCount (addFlags f x y cin).1 % 2 = 0)
        c := decide (256 ≤ x.toNat + y.toNat + cin.toNat) }

/-- R142: SubFlags is the difference, C is the borrow, and A is 1 when no borrow leaves the low nibble. S, Z and P follow R140, the
model's choice (log entry 24). -/
def Obligations.SubFlagsBorrow : Prop :=
  ∀ (f : Flags) (x y : Byte) (bin : Bool),
    (subFlags f x y bin).1 = x - y - BitVec.ofNat 8 bin.toNat ∧
    (subFlags f x y bin).2 =
      { s := (subFlags f x y bin).1.msb
        z := decide ((subFlags f x y bin).1 = 0)
        a := decide (y.toNat % 16 + bin.toNat ≤ x.toNat % 16)
        p := decide (onesCount (subFlags f x y bin).1 % 2 = 0)
        c := decide (x.toNat < y.toNat + bin.toNat) }

/-- R143, R144: the flags of AND, and of OR and XOR. S, Z and P follow R140, the model's choice (log entry 24). -/
def Obligations.LogicFlags : Prop :=
  ∀ (f : Flags) (x y : Byte),
    (andFlags f x y).1 = x &&& y ∧
    (andFlags f x y).2 =
      { s := (x &&& y).msb, z := decide (x &&& y = 0), a := x.getLsbD 3 || y.getLsbD 3,
        p := decide (onesCount (x &&& y) % 2 = 0), c := false } ∧
    orFlags f x =
      { s := x.msb, z := decide (x = 0), a := false, p := decide (onesCount x % 2 = 0), c := false }

/-- R44, R48: a byte write inside the window does nothing; outside it, exactly that byte of memory changes. That the window is the
closed interval, a write at `w.hi` itself being discarded, is the spec's own decision (92_eei_decisions.md D1; log entry 10). -/
def Obligations.WriteThenRead : Prop :=
  ∀ (s : State) (x : Word) (v : Byte),
    (∀ w, s.rom = some w → w.lo ≤ x → x ≤ w.hi → s.writeByte x v = s) ∧
    ((∀ w, s.rom = some w → x < w.lo ∨ w.hi < x) →
      { s.writeByte x v with mem := s.mem } = s ∧
      ∀ y, (s.writeByte x v).readByte y = if y = x then v else s.readByte y)

/-- R43, R45, R46: a word is two bytes, low byte at the lower address, both addresses mod 2^16, each byte of a write subject to the
window on its own. The wrap of a word write and its order are the spec's own decisions (92_eei_decisions.md D4, D5). -/
def Obligations.WordIsTwoBytes : Prop :=
  ∀ (s : State) (x v : Word),
    (s.readWord x).toNat = (s.readByte x).toNat + 256 * (s.readByte (x + 1)).toNat ∧
    { s.writeWord x v with mem := s.mem } = s ∧
    (∀ y, (s.writeWord x v).readByte y =
      if y = x ∧ s.inRom x = false then BitVec.ofNat 8 v.toNat
      else if y = x + 1 ∧ s.inRom (x + 1) = false then BitVec.ofNat 8 (v.toNat / 256)
      else s.readByte y) ∧
    (s.inRom x = false → s.inRom (x + 1) = false → (s.writeWord x v).readWord x = v)

/-- R44, R24, R54: no run, from any state, changes a byte inside the read-only window, or the window. -/
def Obligations.WindowIsReadOnly : Prop :=
  ∀ (k : Nat) (s t : State), Sys2Proof.core.run k s = .next t →
    t.rom = s.rom ∧ ∀ x, s.inRom x = true → t.readByte x = s.readByte x

/-! ## Frames -/

/-- D23, R133, R171: every byte of memory outside the addresses an instruction stores to reads as before. -/
def Obligations.MemoryFrame : Prop :=
  ∀ (i : Instr) (s t : State) (x : Word),
    exec i s = .next t → x ∉ storedBytes i s → t.readByte x = s.readByte x

/-- D23: every general register but the instruction's destinations is unchanged. -/
def Obligations.RegisterFrame : Prop :=
  ∀ (i : Instr) (s t : State) (r : R8),
    exec i s = .next t → r ≠ .m → r ∉ writtenRegs i → t.getR8 r = s.getR8 r

/-- R18, R169: a flag the instruction's rule does not list as written is unchanged. -/
def Obligations.FlagFrame : Prop :=
  ∀ (i : Instr) (s t : State), exec i s = .next t →
    ((writtenFlags i).s = false → t.flags.s = s.flags.s) ∧ ((writtenFlags i).z = false → t.flags.z = s.flags.z) ∧
    ((writtenFlags i).a = false → t.flags.a = s.flags.a) ∧ ((writtenFlags i).p = false → t.flags.p = s.flags.p) ∧
    ((writtenFlags i).c = false → t.flags.c = s.flags.c)

/-- R20 to R24, R27, R28, R259: which instruction writes INTE, `ei_pending`, `halted` and the output latches, and that none
writes the slot, the window or an input latch. -/
def Obligations.ControlFrame : Prop :=
  ∀ (i : Instr) (s t : State), exec i s = .next t →
    (i ≠ .di → t.inte = s.inte) ∧ (i ≠ .di → i ≠ .ei → t.eiPending = s.eiPending) ∧
    (i ≠ .hlt → t.halted = s.halted) ∧ t.intPending = s.intPending ∧ t.intOpcode = s.intOpcode ∧ t.rom = s.rom ∧
    t.ioIn = s.ioIn ∧ t.ack = s.ack ∧ ∀ port, i ≠ .outp port → t.ioOut.get port = s.ioOut.get port

/-- R16, R222: SP moves down by 2 in a push, up by 2 in a pop, and is unchanged in every instruction that is neither and does not
give SP a value of its own. -/
def Obligations.StackPointerFrame : Prop :=
  ∀ (i : Instr) (s t : State), exec i s = .next t → writesSpFreely i = false → t.sp = s.sp + spDelta i s

/-- R109: unless it is a taken transfer of control or HLT, an instruction ends with `PC <- npc`. -/
def Obligations.DefaultPcUpdate : Prop :=
  ∀ (i : Instr) (s t : State), exec i s = .next t → setsPc i s = false → t.pc = s.npc i.length

/-! ## The invariant -/

/-- Every step keeps the invariant: memory and latches canonical (log entry 7), the window in order (R48), the model's own wire
`ack` at 0 (log entry 1). -/
def Obligations.StepKeepsStateInv : Prop :=
  ∀ s t : State, s.Inv → step s = .next t → t.Inv

/-- The invariant holds at reset. -/
def Obligations.ResetMeetsStateInv : Prop := State.reset.Inv

/-- R51 to R56, R302, R318: every host operation keeps the invariant. -/
def Obligations.HostKeepsStateInv : Prop :=
  ∀ (s : State), s.Inv → ∀ (x v : Word) (p n : Byte) (r : R8) (rp : RP) (f : Flags) (z : Bool) (bytes : List Byte),
    (hostLoad s x bytes).Inv ∧ (hostWriteByte s x n).Inv ∧ (hostWriteWord s x v).Inv ∧
    (∀ t, hostSetRomspace s x v = .next t → t.Inv) ∧ (hostClearRomspace s).Inv ∧
    (hostWriteR8 s r n).Inv ∧ (hostWriteRP s rp v).Inv ∧ (hostSetPc s v).Inv ∧ (hostSetSp s v).Inv ∧
    (hostSetA s n).Inv ∧ (hostSetInte s z).Inv ∧ (hostSetFlags s f).Inv ∧
    (hostRequestInterrupt s n).Inv ∧ (hostWithdrawInterrupt s).Inv ∧
    (hostSetIoIn s p n).Inv ∧ (hostClearIoIn s p).Inv ∧ (hostSetIoOut s p n).Inv ∧ (hostClearIoOut s p).Inv

/-- R340: every element after reset; the rows the table marks as derived from "zero-initialized" (`ei_pending`, `halted`, the slot,
the latches) are the spec's own inference (92_eei_decisions.md D15). -/
def Obligations.ResetState : Prop :=
  State.reset.a = 0 ∧ State.reset.b = 0 ∧ State.reset.c = 0 ∧ State.reset.d = 0 ∧ State.reset.e = 0 ∧
  State.reset.h = 0 ∧ State.reset.l = 0 ∧ State.reset.sp = 0 ∧ State.reset.pc = 0 ∧
  State.reset.flags = { s := false, z := false, a := false, p := false, c := false } ∧
  flagByte State.reset.flags = 0x02 ∧ State.reset.inte = false ∧ State.reset.eiPending = false ∧
  State.reset.halted = false ∧ State.reset.intPending = false ∧ State.reset.intOpcode = 0 ∧
  State.reset.rom = none ∧ (∀ x, State.reset.readByte x = 0) ∧
  ∀ port, State.reset.ioIn.get port = none ∧ State.reset.ioOut.get port = none

/-! ## The step -/

/-- R101, R104 to R110: a step that neither acknowledges nor idles reads the bytes at PC, promotes a pending EI, runs the
instruction they decode to, and reports that instruction's count; around that, only the model's wire `ack` is set to 0. That the
promotion comes before the instruction runs is the spec's own decision (92_eei_decisions.md D9; log entry 14). -/
def Obligations.StepRunsFetched : Prop :=
  ∀ (s : State) (i : Instr) (rest : List Byte),
    ¬(s.inte = true ∧ s.intPending = true) → s.halted = false →
    decode [s.readByte s.pc, s.readByte (s.pc + 1), s.readByte (s.pc + 2)] = .ok (i, rest) →
    ∃ t, exec i { s with inte := s.inte || s.eiPending, eiPending := false, ack := false } = .next t ∧
      step s = .next { t with ack := false } ∧ stepCycles s = some (BitVec.ofNat 32 (cycles i s))

/-- R306: with INTE and a pending one-byte request, the step clears INTE, the request, `halted` and `ei_pending`, and runs the
slot's opcode with `npc = PC`, nothing being fetched. That it clears `ei_pending` is the spec's own decision
(92_eei_decisions.md D9). -/
def Obligations.StepAcknowledges : Prop :=
  ∀ s : State, s.inte = true → s.intPending = true → opLength s.intOpcode = 1 →
    ∃ t, exec (decodeOp s.intOpcode 0 0)
        { s with inte := false, intPending := false, halted := false, eiPending := false, ack := true } = .next t ∧
      step s = .next { t with ack := false } ∧
      (∀ n, State.npc { s with inte := false, intPending := false, halted := false, eiPending := false, ack := true } n = s.pc) ∧
      stepCycles s = some (BitVec.ofNat 32 (cycles (decodeOp s.intOpcode 0 0) s))

/-- R103: a halted step that does not acknowledge changes no state and reports the open count; so does any number of them. That the
count stays open is the spec's own decision (92_eei_decisions.md D8; log entry 3). -/
def Obligations.HaltedStepIdles : Prop :=
  ∀ (s : State), s.halted = true → ¬(s.inte = true ∧ s.intPending = true) →
    step s = .next s ∧ stepCycles s = some Config.haltIdleCycles ∧ ∀ k, Sys2Proof.core.run k s = .next s

/-- R309, R112: a step is refused exactly when it would acknowledge a slot opcode of two or three bytes; every other step answers
a next state. The refusal is the spec's own decision (92_eei_decisions.md D13; log entry 4). -/
def Obligations.StepRefusedExactly : Prop :=
  ∀ s : State,
    (s.inte = true ∧ s.intPending = true ∧ 1 < opLength s.intOpcode →
      step s = .refused (.slotOperandsUnknown s.intOpcode)) ∧
    (¬(s.inte = true ∧ s.intPending = true ∧ 1 < opLength s.intOpcode) → ∃ t, step s = .next t)

/-- R306, R308, R218: RST n from the slot pushes the unchanged PC and goes to 8n, with interrupts disabled and the core awake. -/
def Obligations.RestartFromSlot : Prop :=
  ∀ (s : State) (n : BitVec 3), s.inte = true → s.intPending = true → s.intOpcode = 0xC7 + 8 * n.setWidth 8 →
    step s = .next
      { s.push16 s.pc with
        pc := BitVec.ofNat 16 (8 * n.toNat), inte := false, intPending := false, halted := false, eiPending := false,
        ack := false }

/-- R22: `halted` is cleared only by interrupt acknowledge. -/
def Obligations.OnlyAcknowledgeWakes : Prop :=
  ∀ s t : State, step s = .next t → s.halted = true → t.halted = false →
    s.inte = true ∧ s.intPending = true ∧ t.intPending = false

/-- R108, R252, R253, R347: after an EI with INTE 0 the next step fetches, even with a request pending; after that step INTE is 1,
unless its instruction was DI, which leaves it 0 with no enable pending. The place of the promotion, before EXECUTE, is the spec's
own decision (92_eei_decisions.md D9). -/
def Obligations.EnableIsDelayed : Prop :=
  ∀ s : State, s.halted = false → s.inte = false → s.eiPending = false → s.readByte s.pc = 0xFB →
    ∃ t u, step s = .next t ∧ t.inte = false ∧ t.eiPending = true ∧ t.intPending = s.intPending ∧ t.pc = s.pc + 1 ∧
      step t = .next u ∧ u.intPending = s.intPending ∧
      (fetchInstr t = .di → u.inte = false ∧ u.eiPending = false) ∧
      (fetchInstr t = .ei → u.inte = true ∧ u.eiPending = true) ∧
      (fetchInstr t ≠ .di → fetchInstr t ≠ .ei → u.inte = true ∧ u.eiPending = false)

/-- R282, R106, R109: a fetched instruction that is no taken transfer and not HLT advances PC by the length the disassembler gives
its opcode, whatever bytes it is shown. -/
def Obligations.PcAdvancesByDisassembledLength : Prop :=
  ∀ (s : State) (b1 b2 : Byte), ¬(s.inte = true ∧ s.intPending = true) → s.halted = false →
    setsPc (fetchInstr s) s = false →
    ∃ t, step s = .next t ∧ t.pc = s.pc + BitVec.ofNat 16 (disassemble (s.readByte s.pc) b1 b2).2

/-- R342, which the spec derives from R340 and R250: with all memory 0x00 and interrupts disabled the core executes NOPs for ever,
only PC changing, 4 cycles a step; so from reset. -/
def Obligations.ZeroMemoryRunsNops : Prop :=
  (∀ (s : State) (k : Nat), (∀ x, s.readByte x = 0) → s.halted = false → s.inte = false → s.eiPending = false → s.ack = false →
    Sys2Proof.core.run k s = .next { s with pc := s.pc + BitVec.ofNat 16 k } ∧ stepCycles s = some 4) ∧
  ∀ k : Nat, Sys2Proof.core.run k State.reset = .next { State.reset with pc := BitVec.ofNat 16 k }

/-- R23, R24, R27, R303: no step raises a request, writes `INT.opcode`, the window or an input latch; a request goes away only when
it is acknowledged, which needs INTE. -/
def Obligations.HostOwnedState : Prop :=
  ∀ s t : State, step s = .next t →
    t.intOpcode = s.intOpcode ∧ t.rom = s.rom ∧ t.ioIn = s.ioIn ∧
    (t.intPending = true → s.intPending = true) ∧
    (s.intPending = true → (t.intPending = false ↔ s.inte = true))

/-- R100, R110, R353: a step that answers a next state reports a cycle count, between 4 and 18 unless it is an idle halted step. -/
def Obligations.StepReportsCycles : Prop :=
  ∀ s t : State, step s = .next t →
    ∃ n, stepCycles s = some n ∧ stepReport s = .next (t, n) ∧
      (s.halted = false ∨ (s.inte = true ∧ s.intPending = true) → 4 ≤ n.toNat ∧ n.toNat ≤ 18)

/-! ## Data movement -/

/-- R120, R121. -/
def Obligations.MoveByte : Prop :=
  (∀ (dst src : R8) (s : State), ¬(dst = .m ∧ src = .m) →
    RunsAs (.mov dst src) [0x40 + 8 * dst.code.setWidth 8 + src.code.setWidth 8] s
      { s.setR8 dst (s.getR8 src) with pc := s.npc 1 } (if dst = .m ∨ src = .m then 7 else 5)) ∧
  ∀ (dst : R8) (imm : Byte) (s : State),
    RunsAs (.mvi dst imm) [0x06 + 8 * dst.code.setWidth 8, imm] s
      { s.setR8 dst imm with pc := s.npc 2 } (if dst = .m then 10 else 7)

/-- R123, R125, R127. -/
def Obligations.LoadFromMemory : Prop :=
  ∀ (addr : Word) (s : State),
    RunsAs (.lda addr) [0x3A, addr.setWidth 8, (addr >>> 8).setWidth 8] s
      { s with a := s.readByte addr, pc := s.npc 3 } 13 ∧
    RunsAs (.ldax .bc) [0x0A] s { s with a := s.readByte (joinBytes s.b s.c), pc := s.npc 1 } 7 ∧
    RunsAs (.ldax .de) [0x1A] s { s with a := s.readByte (joinBytes s.d s.e), pc := s.npc 1 } 7 ∧
    RunsAs (.lhld addr) [0x2A, addr.setWidth 8, (addr >>> 8).setWidth 8] s
      { s with l := s.readByte addr, h := s.readByte (addr + 1), pc := s.npc 3 } 16

/-- R124, R126, R128. -/
def Obligations.StoreToMemory : Prop :=
  ∀ (addr : Word) (s : State),
    RunsAs (.sta addr) [0x32, addr.setWidth 8, (addr >>> 8).setWidth 8] s
      { s.writeByte addr s.a with pc := s.npc 3 } 13 ∧
    RunsAs (.stax .bc) [0x02] s { s.writeByte (joinBytes s.b s.c) s.a with pc := s.npc 1 } 7 ∧
    RunsAs (.stax .de) [0x12] s { s.writeByte (joinBytes s.d s.e) s.a with pc := s.npc 1 } 7 ∧
    RunsAs (.shld addr) [0x22, addr.setWidth 8, (addr >>> 8).setWidth 8] s
      { (s.writeByte addr s.l).writeByte (addr + 1) s.h with pc := s.npc 3 } 16

/-- R122, R129, R130, R131, R132. -/
def Obligations.MoveWord : Prop :=
  ∀ s : State,
    (∀ (rp : RP) (imm : Word),
      RunsAs (.lxi rp imm) [0x01 + 16 * rp.code.setWidth 8, imm.setWidth 8, (imm >>> 8).setWidth 8] s
        { s.setRP rp imm with pc := s.npc 3 } 10) ∧
    RunsAs .xchg [0xEB] s { s with h := s.d, d := s.h, l := s.e, e := s.l, pc := s.npc 1 } 4 ∧
    RunsAs .xthl [0xE3] s
      { (s.writeByte s.sp s.l).writeByte (s.sp + 1) s.h with
        l := s.readByte s.sp, h := s.readByte (s.sp + 1), pc := s.npc 1 } 18 ∧
    RunsAs .sphl [0xF9] s { s with sp := joinBytes s.h s.l, pc := s.npc 1 } 5 ∧
    RunsAs .pchl [0xE9] s { s with pc := joinBytes s.h s.l } 5

/-! ## Arithmetic, logic, rotates -/

/-- R145 to R148. -/
def Obligations.Additions : Prop :=
  ∀ (r : R8) (imm : Byte) (s : State),
    RunsAs (.add r) [0x80 + r.code.setWidth 8] s
      { s with
        a := (addFlags s.flags s.a (s.getR8 r) false).1, flags := (addFlags s.flags s.a (s.getR8 r) false).2
        pc := s.npc 1 } (if r = .m then 7 else 4) ∧
    RunsAs (.adi imm) [0xC6, imm] s
      { s with
        a := (addFlags s.flags s.a imm false).1, flags := (addFlags s.flags s.a imm false).2, pc := s.npc 2 } 7 ∧
    RunsAs (.adc r) [0x88 + r.code.setWidth 8] s
      { s with
        a := (addFlags s.flags s.a (s.getR8 r) s.flags.c).1, flags := (addFlags s.flags s.a (s.getR8 r) s.flags.c).2
        pc := s.npc 1 } (if r = .m then 7 else 4) ∧
    RunsAs (.aci imm) [0xCE, imm] s
      { s with
        a := (addFlags s.flags s.a imm s.flags.c).1, flags := (addFlags s.flags s.a imm s.flags.c).2, pc := s.npc 2 } 7

/-- R149 to R152, R159, R160: the comparisons keep A. -/
def Obligations.SubtractionsAndComparisons : Prop :=
  ∀ (r : R8) (imm : Byte) (s : State),
    RunsAs (.sub r) [0x90 + r.code.setWidth 8] s
      { s with
        a := (subFlags s.flags s.a (s.getR8 r) false).1, flags := (subFlags s.flags s.a (s.getR8 r) false).2
        pc := s.npc 1 } (if r = .m then 7 else 4) ∧
    RunsAs (.sui imm) [0xD6, imm] s
      { s with
        a := (subFlags s.flags s.a imm false).1, flags := (subFlags s.flags s.a imm false).2, pc := s.npc 2 } 7 ∧
    RunsAs (.sbb r) [0x98 + r.code.setWidth 8] s
      { s with
        a := (subFlags s.flags s.a (s.getR8 r) s.flags.c).1, flags := (subFlags s.flags s.a (s.getR8 r) s.flags.c).2
        pc := s.npc 1 } (if r = .m then 7 else 4) ∧
    RunsAs (.sbi imm) [0xDE, imm] s
      { s with
        a := (subFlags s.flags s.a imm s.flags.c).1, flags := (subFlags s.flags s.a imm s.flags.c).2, pc := s.npc 2 } 7 ∧
    RunsAs (.cmp r) [0xB8 + r.code.setWidth 8] s
      { s with flags := (subFlags s.flags s.a (s.getR8 r) false).2, pc := s.npc 1 } (if r = .m then 7 else 4) ∧
    RunsAs (.cpi imm) [0xFE, imm] s
      { s with flags := (subFlags s.flags s.a imm false).2, pc := s.npc 2 } 7

/-- R153 to R158. -/
def Obligations.LogicInstructions : Prop :=
  ∀ (r : R8) (imm : Byte) (s : State),
    RunsAs (.ana r) [0xA0 + r.code.setWidth 8] s
      { s with a := s.a &&& s.getR8 r, flags := (andFlags s.flags s.a (s.getR8 r)).2, pc := s.npc 1 }
      (if r = .m then 7 else 4) ∧
    RunsAs (.ani imm) [0xE6, imm] s
      { s with a := s.a &&& imm, flags := (andFlags s.flags s.a imm).2, pc := s.npc 2 } 7 ∧
    RunsAs (.xra r) [0xA8 + r.code.setWidth 8] s
      { s with a := s.a ^^^ s.getR8 r, flags := orFlags s.flags (s.a ^^^ s.getR8 r), pc := s.npc 1 }
      (if r = .m then 7 else 4) ∧
    RunsAs (.xri imm) [0xEE, imm] s
      { s with a := s.a ^^^ imm, flags := orFlags s.flags (s.a ^^^ imm), pc := s.npc 2 } 7 ∧
    RunsAs (.ora r) [0xB0 + r.code.setWidth 8] s
      { s with a := s.a ||| s.getR8 r, flags := orFlags s.flags (s.a ||| s.getR8 r), pc := s.npc 1 }
      (if r = .m then 7 else 4) ∧
    RunsAs (.ori imm) [0xF6, imm] s
      { s with a := s.a ||| imm, flags := orFlags s.flags (s.a ||| imm), pc := s.npc 2 } 7

/-- R161, R162: INR and DCR keep C; A is 1 in INR when the low nibble was 0xF, in DCR when it was not 0, which the spec derives
from R141 and R142. S, Z and P follow R140, the model's choice (log entry 24). -/
def Obligations.IncrementDecrement : Prop :=
  ∀ (dst : R8) (s : State),
    RunsAs (.inr dst) [0x04 + 8 * dst.code.setWidth 8] s
      { s.setR8 dst (s.getR8 dst + 1) with
        flags :=
          { s := (s.getR8 dst + 1).msb
            z := decide (s.getR8 dst + 1 = 0)
            a := decide ((s.getR8 dst).toNat % 16 = 15)
            p := decide (onesCount (s.getR8 dst + 1) % 2 = 0)
            c := s.flags.c }
        pc := s.npc 1 } (if dst = .m then 10 else 5) ∧
    RunsAs (.dcr dst) [0x05 + 8 * dst.code.setWidth 8] s
      { s.setR8 dst (s.getR8 dst - 1) with
        flags :=
          { s := (s.getR8 dst - 1).msb
            z := decide (s.getR8 dst - 1 = 0)
            a := decide ((s.getR8 dst).toNat % 16 ≠ 0)
            p := decide (onesCount (s.getR8 dst - 1) % 2 = 0)
            c := s.flags.c }
        pc := s.npc 1 } (if dst = .m then 10 else 5)

/-- R163, R164, R165: DAD writes C alone, the carry out of bit 15; INX and DCX wrap and write no flag, which is the spec's own
decision (92_eei_decisions.md D4, D23). -/
def Obligations.PairArithmetic : Prop :=
  ∀ (rp : RP) (s : State),
    RunsAs (.dad rp) [0x09 + 16 * rp.code.setWidth 8] s
      { s.setRP .hl (joinBytes s.h s.l + s.getRP rp) with
        flags := { s.flags with c := decide (65536 ≤ (joinBytes s.h s.l).toNat + (s.getRP rp).toNat) }
        pc := s.npc 1 } 10 ∧
    RunsAs (.inx rp) [0x03 + 16 * rp.code.setWidth 8] s { s.setRP rp (s.getRP rp + 1) with pc := s.npc 1 } 5 ∧
    RunsAs (.dcx rp) [0x0B + 16 * rp.code.setWidth 8] s { s.setRP rp (s.getRP rp - 1) with pc := s.npc 1 } 5

/-- R166: DAA by the closed form the rule derives. That A is written in every case and that the first sum's carry makes the second
correction fire are the spec's own decisions (92_eei_decisions.md D10, D11). S, Z and P follow R140, the model's choice (log
entry 24). -/
def Obligations.DecimalAdjust : Prop :=
  ∀ (s : State) (lsb msb corr : Nat),
    lsb = s.a.toNat % 16 → msb = s.a.toNat / 16 →
    corr = (if 9 < lsb ∨ s.flags.a = true then 6 else 0) +
      (if s.flags.c = true ∨ 9 < msb ∨ (msb = 9 ∧ 9 < lsb) then 0x60 else 0) →
    RunsAs .daa [0x27] s
      { s with
        a := BitVec.ofNat 8 (s.a.toNat + corr)
        flags :=
          { s := (BitVec.ofNat 8 (s.a.toNat + corr)).msb
            z := decide (BitVec.ofNat 8 (s.a.toNat + corr) = 0)
            a := decide (15 < lsb + corr % 16)
            p := decide (onesCount (BitVec.ofNat 8 (s.a.toNat + corr)) % 2 = 0)
            c := s.flags.c || decide (0x60 ≤ corr) }
        pc := s.npc 1 } 4

/-- R180 to R183: C takes the leaving bit; the leaving bit re-enters in RLC and RRC, the old C enters in RAL and RAR. -/
def Obligations.Rotates : Prop :=
  ∀ s : State,
    RunsAs .rlc [0x07] s
      { s with a := s.a.rotateLeft 1, flags := { s.flags with c := s.a.msb }, pc := s.npc 1 } 4 ∧
    RunsAs .rrc [0x0F] s
      { s with a := s.a.rotateRight 1, flags := { s.flags with c := s.a.getLsbD 0 }, pc := s.npc 1 } 4 ∧
    RunsAs .ral [0x17] s
      { s with
        a := (s.a <<< 1) ||| (if s.flags.c then 0x01 else 0x00), flags := { s.flags with c := s.a.msb }
        pc := s.npc 1 } 4 ∧
    RunsAs .rar [0x1F] s
      { s with
        a := (s.a >>> 1) ||| (if s.flags.c then 0x80 else 0x00), flags := { s.flags with c := s.a.getLsbD 0 }
        pc := s.npc 1 } 4

/-! ## Control flow -/

/-- R190 to R199, R223: each row is an instruction, its opcode, and its condition. -/
def Obligations.Jumps : Prop :=
  ∀ (addr : Word) (s : State),
    RunsAs (.jmp addr) [0xC3, addr.setWidth 8, (addr >>> 8).setWidth 8] s { s with pc := addr } 10 ∧
    ∀ row ∈ ([(.jnz addr, 0xC2, !s.flags.z), (.jz addr, 0xCA, s.flags.z), (.jnc addr, 0xD2, !s.flags.c),
        (.jc addr, 0xDA, s.flags.c), (.jpo addr, 0xE2, !s.flags.p), (.jpe addr, 0xEA, s.flags.p),
        (.jp addr, 0xF2, !s.flags.s), (.jm addr, 0xFA, s.flags.s)] : List (Instr × Byte × Bool)),
      RunsAs row.1 [row.2.1, addr.setWidth 8, (addr >>> 8).setWidth 8] s
        { s with pc := if row.2.2 then addr else s.npc 3 } 10

/-- R200 to R208, R224: a call pushes `npc`, the address after its third byte; not taken, only PC changes. -/
def Obligations.Calls : Prop :=
  ∀ (addr : Word) (s : State),
    RunsAs (.call addr) [0xCD, addr.setWidth 8, (addr >>> 8).setWidth 8] s
      { s.push16 (s.npc 3) with pc := addr } 17 ∧
    ∀ row ∈ ([(.cnz addr, 0xC4, !s.flags.z), (.cz addr, 0xCC, s.flags.z), (.cnc addr, 0xD4, !s.flags.c),
        (.cc addr, 0xDC, s.flags.c), (.cpo addr, 0xE4, !s.flags.p), (.cpe addr, 0xEC, s.flags.p),
        (.cp addr, 0xF4, !s.flags.s), (.cm addr, 0xFC, s.flags.s)] : List (Instr × Byte × Bool)),
      RunsAs row.1 [row.2.1, addr.setWidth 8, (addr >>> 8).setWidth 8] s
        (if row.2.2 then { s.push16 (s.npc 3) with pc := addr } else { s with pc := s.npc 3 })
        (if row.2.2 then 17 else 11)

/-- R209 to R217, R225: a return takes PC from the stack top; not taken, only PC changes. -/
def Obligations.Returns : Prop :=
  ∀ s : State,
    RunsAs .ret [0xC9] s { s with pc := s.readWord s.sp, sp := s.sp + 2 } 10 ∧
    ∀ row ∈ ([(.rnz, 0xC0, !s.flags.z), (.rz, 0xC8, s.flags.z), (.rnc, 0xD0, !s.flags.c), (.rc, 0xD8, s.flags.c),
        (.rpo, 0xE0, !s.flags.p), (.rpe, 0xE8, s.flags.p), (.rp, 0xF0, !s.flags.s),
        (.rm, 0xF8, s.flags.s)] : List (Instr × Byte × Bool)),
      RunsAs row.1 [row.2.1] s
        (if row.2.2 then { s with pc := s.readWord s.sp, sp := s.sp + 2 } else { s with pc := s.npc 1 })
        (if row.2.2 then 11 else 5)

/-- R218: RST n pushes `npc` and goes to 8n; fetched at PC that is PC + 1, acknowledged it is PC. -/
def Obligations.Restart : Prop :=
  ∀ (n : BitVec 3) (s : State),
    RunsAs (.rst n) [0xC7 + 8 * n.setWidth 8] s
      { s.push16 (if s.ack then s.pc else s.pc + 1) with pc := BitVec.ofNat 16 (8 * n.toNat) } 11

/-- R219, R220, R221, R257: the undocumented opcodes run as their aliases, in effect and in cycles, the spec's own decision
(92_eei_decisions.md D12; log entry 2). -/
def Obligations.UndocumentedAliases : Prop :=
  ∀ (k : BitVec 3) (j : BitVec 2) (addr : Word) (s : State),
    RunsAs (.nopUndoc k) [8 * k.setWidth 8] s { s with pc := s.npc 1 } 4 ∧
    RunsAs (.jmpUndoc addr) [0xCB, addr.setWidth 8, (addr >>> 8).setWidth 8] s { s with pc := addr } 10 ∧
    RunsAs .retUndoc [0xD9] s { s with pc := s.readWord s.sp, sp := s.sp + 2 } 10 ∧
    RunsAs (.callUndoc j addr) [0xCD + 16 * j.setWidth 8, addr.setWidth 8, (addr >>> 8).setWidth 8] s
      { s.push16 (s.npc 3) with pc := addr } 17

/-! ## Stack, ports, miscellaneous -/

/-- R230 to R233: Push16 and Pop16 written out, and what PUSH and POP move. That A is the byte at SP + 1 and the flag byte the one at
SP is the spec's own decision (92_eei_decisions.md D6). -/
def Obligations.PushAndPop : Prop :=
  ∀ s : State,
    (∀ v : Word,
      s.push16 v =
        (State.writeByte { s with sp := s.sp - 2 } (s.sp - 2 + 1) ((v >>> 8).setWidth 8)).writeByte (s.sp - 2)
          (v.setWidth 8)) ∧
    RunsAs (.push .bc) [0xC5] s { s.push16 (joinBytes s.b s.c) with pc := s.npc 1 } 11 ∧
    RunsAs (.push .de) [0xD5] s { s.push16 (joinBytes s.d s.e) with pc := s.npc 1 } 11 ∧
    RunsAs (.push .hl) [0xE5] s { s.push16 (joinBytes s.h s.l) with pc := s.npc 1 } 11 ∧
    RunsAs (.push .psw) [0xF5] s { s.push16 (joinBytes s.a (flagByte s.flags)) with pc := s.npc 1 } 11 ∧
    RunsAs (.pop .bc) [0xC1] s
      { s with c := s.readByte s.sp, b := s.readByte (s.sp + 1), sp := s.sp + 2, pc := s.npc 1 } 10 ∧
    RunsAs (.pop .de) [0xD1] s
      { s with e := s.readByte s.sp, d := s.readByte (s.sp + 1), sp := s.sp + 2, pc := s.npc 1 } 10 ∧
    RunsAs (.pop .hl) [0xE1] s
      { s with l := s.readByte s.sp, h := s.readByte (s.sp + 1), sp := s.sp + 2, pc := s.npc 1 } 10 ∧
    RunsAs (.pop .psw) [0xF1] s
      { s with
        flags := setFlagByte (s.readByte s.sp), a := s.readByte (s.sp + 1), sp := s.sp + 2, pc := s.npc 1 } 10

/-- R234: with both stack bytes outside the window, PUSH and then POP of the same pair leave every register and flag as they
were, for every value of them; POP PSW and then PUSH PSW rewrite the popped byte `b` as `(b & 0xD5) | 0x02`. That `b` is the byte
at SP, A being the one at SP + 1, is the spec's own decision (92_eei_decisions.md D6; log entry 12). -/
def Obligations.PushPopRoundTrip : Prop :=
  (∀ (s : State) (rp : StackRP), s.inRom (s.sp - 2) = false → s.inRom (s.sp - 1) = false →
    ∃ t u, exec (.push rp) s = .next t ∧ exec (.pop rp) t = .next u ∧ { u with pc := s.pc, mem := s.mem } = s) ∧
  ∀ s : State, s.inRom s.sp = false → s.inRom (s.sp + 1) = false →
    ∃ t u, exec (.pop .psw) s = .next t ∧ exec (.push .psw) t = .next u ∧ u.sp = s.sp ∧
      u.readByte s.sp = (s.readByte s.sp &&& 0xD5) ||| 0x02 ∧ u.readByte (s.sp + 1) = s.readByte (s.sp + 1)

/-- R222, which the spec derives from R200 and R209: with both stack bytes outside the window, RET after CALL comes back to the
instruction after the CALL with the old SP. -/
def Obligations.CallRetRoundTrip : Prop :=
  ∀ (s : State) (addr : Word), s.inRom (s.sp - 2) = false → s.inRom (s.sp - 1) = false →
    ∃ t u, exec (.call addr) s = .next t ∧ t.pc = addr ∧ exec .ret t = .next u ∧ u.pc = s.npc 3 ∧ u.sp = s.sp

/-- R240, R241: IN takes a present latch and keeps A at an absent one; OUT sets one output latch to A. -/
def Obligations.PortTransfer : Prop :=
  ∀ (port : Byte) (s : State),
    RunsAs (.inp port) [0xDB, port] s
      { s with a := (match s.ioIn.get port with | some v => v | none => s.a), pc := s.npc 2 } 10 ∧
    RunsAs (.outp port) [0xD3, port] s { s with ioOut := s.ioOut.set port s.a, pc := s.npc 2 } 10 ∧
    ∀ q, (s.ioOut.set port s.a).get q = if q = port then some s.a else s.ioOut.get q

/-- R250, R254, R255, R256, and of R252 what EI itself writes. The meanings run after the promotion of an earlier EI, so NOP leaves
`ei_pending` as it finds it here; the promotion is in StepRunsFetched and EnableIsDelayed. -/
def Obligations.Miscellaneous : Prop :=
  ∀ s : State,
    RunsAs .nop [0x00] s { s with pc := s.npc 1 } 4 ∧
    RunsAs .ei [0xFB] s { s with eiPending := true, pc := s.npc 1 } 4 ∧
    RunsAs .cma [0x2F] s { s with a := 255 - s.a, pc := s.npc 1 } 4 ∧
    RunsAs .stc [0x37] s { s with flags := { s.flags with c := true }, pc := s.npc 1 } 4 ∧
    RunsAs .cmc [0x3F] s { s with flags := { s.flags with c := !s.flags.c }, pc := s.npc 1 } 4

/-- R251, R253: HLT leaves PC where the step started, and DI cancels a pending EI: both the spec's own decisions
(92_eei_decisions.md D7, D9). -/
def Obligations.HaltAndDisable : Prop :=
  ∀ s : State,
    RunsAs .hlt [0x76] s { s with halted := true } 7 ∧
    RunsAs .di [0xF3] s { s with inte := false, eiPending := false, pc := s.npc 1 } 4

/-! ## Disassembler and host -/

/-- R280, R270: the worked examples (four of the source, the others derived by the spec), and that operand bytes beyond the length
play no part. -/
def Obligations.Disassembly : Prop :=
  disassemble 0x3E 0x0F 0x00 = ("MVI A,$0f", 2) ∧ disassemble 0x21 0x34 0x12 = ("LXI H,$1234", 3) ∧
  disassemble 0xC2 0x02 0x01 = ("JNZ $0102", 3) ∧ disassemble 0xC7 0x00 0x00 = ("RST 0", 1) ∧
  (∀ x y, disassemble 0x3D x y = ("DCR A", 1)) ∧ disassemble 0xC9 0x00 0x00 = ("RET", 1) ∧
  disassemble 0xD3 0x01 0x00 = ("OUT $01", 2) ∧ disassemble 0x32 0x10 0x00 = ("STA $0010", 3) ∧
  disassemble 0x76 0x00 0x00 = ("HLT", 1) ∧ disassemble 0xCF 0x00 0x00 = ("RST 1", 1) ∧
  disassemble 0xF5 0x00 0x00 = ("PUSH PSW", 1) ∧ disassemble 0x31 0x00 0xFF = ("LXI SP,$ff00", 3) ∧
  disassemble 0xFE 0x0A 0x00 = ("CPI $0a", 2) ∧ disassemble 0x70 0x00 0x00 = ("MOV M,B", 1) ∧
  disassemble 0xED 0x00 0x02 = ("CALL $0200", 3) ∧
  ∀ op x y x' y' : Byte,
    (opLength op = 1 → disassemble op x y = disassemble op x' y') ∧
    (opLength op = 2 → disassemble op x y = disassemble op x y')

/-- R51, R52, R53: the back-door load writes byte after byte whatever the window says, so later bytes win; a plain host write obeys
the window; `set_romspace` replaces the window, or is refused when the bounds are reversed, the spec's own decision
(92_eei_decisions.md D3; log entry 5). -/
def Obligations.HostMemoryAccess : Prop :=
  ∀ (s : State) (x : Word) (v : Byte),
    (∀ y, (hostLoad s x [v]).readByte y = if y = x then v else s.readByte y) ∧
    (∀ front back : List Byte,
      hostLoad s x (front ++ back) = hostLoad (hostLoad s x front) (x + BitVec.ofNat 16 front.length) back) ∧
    (∀ bytes, { hostLoad s x bytes with mem := s.mem } = s) ∧
    (s.inRom x = true → hostWriteByte s x v = s) ∧
    (∀ hi, x ≤ hi → hostSetRomspace s x hi = .next { s with rom := some { lo := x, hi := hi } }) ∧
    (∀ hi, hi < x → hostSetRomspace s x hi = .refused (.romBoundsReversed x hi)) ∧
    hostClearRomspace s = { s with rom := none }

/-- R51, R55, R302 to R304, R318: the other host operations. A host access to memory is the core's own accessor; a register access
writes that register alone; a request fills the one slot, replacing a waiting one, and withdrawing it leaves the opcode; each latch
operation changes one cell of one array. That the host has access to the flags is the model's choice (log entry 20); that a new
request replaces the waiting one is the spec's own inference (R304). -/
def Obligations.HostOperations : Prop :=
  ∀ (s : State) (x v : Word) (n op port : Byte) (r : R8) (rp : RP) (on : Bool) (f : Flags),
    hostReadByte s x = s.readByte x ∧ hostReadWord s x = s.readWord x ∧ hostWriteByte s x n = s.writeByte x n ∧
    hostWriteWord s x v = (s.writeByte x (v.setWidth 8)).writeByte (x + 1) ((v >>> 8).setWidth 8) ∧
    hostReadR8 s r = s.getR8 r ∧ hostWriteR8 s r n = s.setR8 r n ∧
    hostReadRP s rp = s.getRP rp ∧ hostWriteRP s rp v = s.setRP rp v ∧
    hostSetPc s v = { s with pc := v } ∧ hostSetSp s v = { s with sp := v } ∧ hostSetA s n = { s with a := n } ∧
    hostSetInte s on = { s with inte := on } ∧ hostSetFlags s f = { s with flags := f } ∧
    hostRequestInterrupt s op = { s with intPending := true, intOpcode := op } ∧
    hostRequestInterrupt (hostRequestInterrupt s n) op = hostRequestInterrupt s op ∧
    hostWithdrawInterrupt s = { s with intPending := false } ∧
    hostGetIoIn s port = s.ioIn.get port ∧ hostGetIoOut s port = s.ioOut.get port ∧
    { hostSetIoIn s port n with ioIn := s.ioIn } = s ∧
    (∀ q, hostGetIoIn (hostSetIoIn s port n) q = if q = port then some n else s.ioIn.get q) ∧
    { hostClearIoIn s port with ioIn := s.ioIn } = s ∧
    (∀ q, hostGetIoIn (hostClearIoIn s port) q = if q = port then none else s.ioIn.get q) ∧
    { hostSetIoOut s port n with ioOut := s.ioOut } = s ∧
    (∀ q, hostGetIoOut (hostSetIoOut s port n) q = if q = port then some n else s.ioOut.get q) ∧
    { hostClearIoOut s port with ioOut := s.ioOut } = s ∧
    (∀ q, hostGetIoOut (hostClearIoOut s port) q = if q = port then none else s.ioOut.get q)
end

