-- ==== Sys2Proof/Laws/Bytes.lean ====
section
/-! SUPPORT. Words and bytes as numbers (00_scope.md R5). -/

namespace Sys2Proof.Machine

/-- A claim about every value of a width, from the claim about each number below 2^n: a case split over opcodes or codes. -/
theorem bitvec_cases {n : Nat} {P : BitVec n → Prop} (h : ∀ k < 2 ^ n, P (BitVec.ofNat n k)) (v : BitVec n) : P v := by
  have hv := h v.toNat v.isLt
  rwa [BitVec.ofNat_toNat, BitVec.setWidth_eq] at hv

theorem joinBytes_toNat (x y : Byte) : (joinBytes x y).toNat = 256 * x.toNat + y.toNat := by
  have h : (joinBytes x y).toNat = x.toNat <<< 8 ||| y.toNat := BitVec.toNat_append x y
  rw [h, ← Nat.shiftLeft_add_eq_or_of_lt y.isLt, Nat.shiftLeft_eq]
  omega

theorem hiByte_toNat (v : Word) : (hiByte v).toNat = v.toNat / 256 := by
  have hv := v.isLt
  simp only [hiByte, BitVec.extractLsb'_toNat, Nat.shiftRight_eq_div_pow]
  omega

theorem loByte_toNat (v : Word) : (loByte v).toNat = v.toNat % 256 := by
  simp [loByte, BitVec.extractLsb'_toNat]

@[simp] theorem joinBytes_hi_lo (v : Word) : joinBytes (hiByte v) (loByte v) = v := by
  apply BitVec.eq_of_toNat_eq
  rw [joinBytes_toNat, hiByte_toNat, loByte_toNat]
  omega

@[simp] theorem hiByte_joinBytes (x y : Byte) : hiByte (joinBytes x y) = x := by
  apply BitVec.eq_of_toNat_eq
  have hy := y.isLt
  rw [hiByte_toNat, joinBytes_toNat]
  omega

@[simp] theorem loByte_joinBytes (x y : Byte) : loByte (joinBytes x y) = y := by
  apply BitVec.eq_of_toNat_eq
  have hy := y.isLt
  rw [loByte_toNat, joinBytes_toNat]
  omega

end Sys2Proof.Machine
end

