-- ==== Sys2Proof/Laws/State.lean ====
section
/-! SUPPORT. The small lemmas of State: what each named update leaves in each field, so that no later proof unfolds one. -/

namespace Sys2Proof.Machine

variable (s : State)


/-! ## PC updates -/

@[simp] theorem State.advance_a (len : Nat) : (s.advance len).a = s.a := rfl
@[simp] theorem State.advance_b (len : Nat) : (s.advance len).b = s.b := rfl
@[simp] theorem State.advance_c (len : Nat) : (s.advance len).c = s.c := rfl
@[simp] theorem State.advance_d (len : Nat) : (s.advance len).d = s.d := rfl
@[simp] theorem State.advance_e (len : Nat) : (s.advance len).e = s.e := rfl
@[simp] theorem State.advance_h (len : Nat) : (s.advance len).h = s.h := rfl
@[simp] theorem State.advance_l (len : Nat) : (s.advance len).l = s.l := rfl
@[simp] theorem State.advance_sp (len : Nat) : (s.advance len).sp = s.sp := rfl
@[simp] theorem State.advance_flags (len : Nat) : (s.advance len).flags = s.flags := rfl
@[simp] theorem State.advance_inte (len : Nat) : (s.advance len).inte = s.inte := rfl
@[simp] theorem State.advance_eiPending (len : Nat) : (s.advance len).eiPending = s.eiPending := rfl
@[simp] theorem State.advance_halted (len : Nat) : (s.advance len).halted = s.halted := rfl
@[simp] theorem State.advance_intPending (len : Nat) : (s.advance len).intPending = s.intPending := rfl
@[simp] theorem State.advance_intOpcode (len : Nat) : (s.advance len).intOpcode = s.intOpcode := rfl
@[simp] theorem State.advance_rom (len : Nat) : (s.advance len).rom = s.rom := rfl
@[simp] theorem State.advance_mem (len : Nat) : (s.advance len).mem = s.mem := rfl
@[simp] theorem State.advance_ioIn (len : Nat) : (s.advance len).ioIn = s.ioIn := rfl
@[simp] theorem State.advance_ioOut (len : Nat) : (s.advance len).ioOut = s.ioOut := rfl
@[simp] theorem State.advance_ack (len : Nat) : (s.advance len).ack = s.ack := rfl
@[simp] theorem State.advance_pc (len : Nat) : (s.advance len).pc = s.npc len := rfl
@[simp] theorem State.jump_a (x : Word) : (s.jump x).a = s.a := rfl
@[simp] theorem State.jump_b (x : Word) : (s.jump x).b = s.b := rfl
@[simp] theorem State.jump_c (x : Word) : (s.jump x).c = s.c := rfl
@[simp] theorem State.jump_d (x : Word) : (s.jump x).d = s.d := rfl
@[simp] theorem State.jump_e (x : Word) : (s.jump x).e = s.e := rfl
@[simp] theorem State.jump_h (x : Word) : (s.jump x).h = s.h := rfl
@[simp] theorem State.jump_l (x : Word) : (s.jump x).l = s.l := rfl
@[simp] theorem State.jump_sp (x : Word) : (s.jump x).sp = s.sp := rfl
@[simp] theorem State.jump_flags (x : Word) : (s.jump x).flags = s.flags := rfl
@[simp] theorem State.jump_inte (x : Word) : (s.jump x).inte = s.inte := rfl
@[simp] theorem State.jump_eiPending (x : Word) : (s.jump x).eiPending = s.eiPending := rfl
@[simp] theorem State.jump_halted (x : Word) : (s.jump x).halted = s.halted := rfl
@[simp] theorem State.jump_intPending (x : Word) : (s.jump x).intPending = s.intPending := rfl
@[simp] theorem State.jump_intOpcode (x : Word) : (s.jump x).intOpcode = s.intOpcode := rfl
@[simp] theorem State.jump_rom (x : Word) : (s.jump x).rom = s.rom := rfl
@[simp] theorem State.jump_mem (x : Word) : (s.jump x).mem = s.mem := rfl
@[simp] theorem State.jump_ioIn (x : Word) : (s.jump x).ioIn = s.ioIn := rfl
@[simp] theorem State.jump_ioOut (x : Word) : (s.jump x).ioOut = s.ioOut := rfl
@[simp] theorem State.jump_ack (x : Word) : (s.jump x).ack = s.ack := rfl
@[simp] theorem State.jump_pc (x : Word) : (s.jump x).pc = x := rfl

/-! ## Memory writes -/

theorem State.writeByte_eq (x : Word) (v : Byte) :
    s.writeByte x v = { s with mem := if s.inRom x then s.mem else s.mem.write x v } := by
  unfold State.writeByte
  split <;> rfl

@[simp] theorem State.writeByte_a (x : Word) (v : Byte) : (s.writeByte x v).a = s.a := by rw [State.writeByte_eq]
@[simp] theorem State.writeByte_b (x : Word) (v : Byte) : (s.writeByte x v).b = s.b := by rw [State.writeByte_eq]
@[simp] theorem State.writeByte_c (x : Word) (v : Byte) : (s.writeByte x v).c = s.c := by rw [State.writeByte_eq]
@[simp] theorem State.writeByte_d (x : Word) (v : Byte) : (s.writeByte x v).d = s.d := by rw [State.writeByte_eq]
@[simp] theorem State.writeByte_e (x : Word) (v : Byte) : (s.writeByte x v).e = s.e := by rw [State.writeByte_eq]
@[simp] theorem State.writeByte_h (x : Word) (v : Byte) : (s.writeByte x v).h = s.h := by rw [State.writeByte_eq]
@[simp] theorem State.writeByte_l (x : Word) (v : Byte) : (s.writeByte x v).l = s.l := by rw [State.writeByte_eq]
@[simp] theorem State.writeByte_sp (x : Word) (v : Byte) : (s.writeByte x v).sp = s.sp := by rw [State.writeByte_eq]
@[simp] theorem State.writeByte_pc (x : Word) (v : Byte) : (s.writeByte x v).pc = s.pc := by rw [State.writeByte_eq]
@[simp] theorem State.writeByte_flags (x : Word) (v : Byte) : (s.writeByte x v).flags = s.flags := by rw [State.writeByte_eq]
@[simp] theorem State.writeByte_inte (x : Word) (v : Byte) : (s.writeByte x v).inte = s.inte := by rw [State.writeByte_eq]
@[simp] theorem State.writeByte_eiPending (x : Word) (v : Byte) : (s.writeByte x v).eiPending = s.eiPending := by rw [State.writeByte_eq]
@[simp] theorem State.writeByte_halted (x : Word) (v : Byte) : (s.writeByte x v).halted = s.halted := by rw [State.writeByte_eq]
@[simp] theorem State.writeByte_intPending (x : Word) (v : Byte) : (s.writeByte x v).intPending = s.intPending := by rw [State.writeByte_eq]
@[simp] theorem State.writeByte_intOpcode (x : Word) (v : Byte) : (s.writeByte x v).intOpcode = s.intOpcode := by rw [State.writeByte_eq]
@[simp] theorem State.writeByte_rom (x : Word) (v : Byte) : (s.writeByte x v).rom = s.rom := by rw [State.writeByte_eq]
@[simp] theorem State.writeByte_ioIn (x : Word) (v : Byte) : (s.writeByte x v).ioIn = s.ioIn := by rw [State.writeByte_eq]
@[simp] theorem State.writeByte_ioOut (x : Word) (v : Byte) : (s.writeByte x v).ioOut = s.ioOut := by rw [State.writeByte_eq]
@[simp] theorem State.writeByte_ack (x : Word) (v : Byte) : (s.writeByte x v).ack = s.ack := by rw [State.writeByte_eq]
@[simp] theorem State.writeByte_mem (x : Word) (v : Byte) : (s.writeByte x v).mem = if s.inRom x then s.mem else s.mem.write x v := by rw [State.writeByte_eq]

/-- The window check reads `rom` alone. -/
theorem State.inRom_congr {s t : State} (h : t.rom = s.rom) (x : Word) : t.inRom x = s.inRom x := by
  unfold State.inRom
  rw [h]

/-- A read reads `mem` alone. -/
theorem State.readByte_congr {s t : State} (h : t.mem = s.mem) (x : Word) : t.readByte x = s.readByte x := by
  unfold State.readByte
  rw [h]

@[simp] theorem State.writeByte_inRom (x y : Word) (v : Byte) : (s.writeByte x v).inRom y = s.inRom y :=
  State.inRom_congr (State.writeByte_rom s x v) y

@[simp] theorem State.writeWord_a (x v : Word) : (s.writeWord x v).a = s.a := by simp [State.writeWord]
@[simp] theorem State.writeWord_b (x v : Word) : (s.writeWord x v).b = s.b := by simp [State.writeWord]
@[simp] theorem State.writeWord_c (x v : Word) : (s.writeWord x v).c = s.c := by simp [State.writeWord]
@[simp] theorem State.writeWord_d (x v : Word) : (s.writeWord x v).d = s.d := by simp [State.writeWord]
@[simp] theorem State.writeWord_e (x v : Word) : (s.writeWord x v).e = s.e := by simp [State.writeWord]
@[simp] theorem State.writeWord_h (x v : Word) : (s.writeWord x v).h = s.h := by simp [State.writeWord]
@[simp] theorem State.writeWord_l (x v : Word) : (s.writeWord x v).l = s.l := by simp [State.writeWord]
@[simp] theorem State.writeWord_sp (x v : Word) : (s.writeWord x v).sp = s.sp := by simp [State.writeWord]
@[simp] theorem State.writeWord_pc (x v : Word) : (s.writeWord x v).pc = s.pc := by simp [State.writeWord]
@[simp] theorem State.writeWord_flags (x v : Word) : (s.writeWord x v).flags = s.flags := by simp [State.writeWord]
@[simp] theorem State.writeWord_inte (x v : Word) : (s.writeWord x v).inte = s.inte := by simp [State.writeWord]
@[simp] theorem State.writeWord_eiPending (x v : Word) : (s.writeWord x v).eiPending = s.eiPending := by simp [State.writeWord]
@[simp] theorem State.writeWord_halted (x v : Word) : (s.writeWord x v).halted = s.halted := by simp [State.writeWord]
@[simp] theorem State.writeWord_intPending (x v : Word) : (s.writeWord x v).intPending = s.intPending := by simp [State.writeWord]
@[simp] theorem State.writeWord_intOpcode (x v : Word) : (s.writeWord x v).intOpcode = s.intOpcode := by simp [State.writeWord]
@[simp] theorem State.writeWord_rom (x v : Word) : (s.writeWord x v).rom = s.rom := by simp [State.writeWord]
@[simp] theorem State.writeWord_ioIn (x v : Word) : (s.writeWord x v).ioIn = s.ioIn := by simp [State.writeWord]
@[simp] theorem State.writeWord_ioOut (x v : Word) : (s.writeWord x v).ioOut = s.ioOut := by simp [State.writeWord]
@[simp] theorem State.writeWord_ack (x v : Word) : (s.writeWord x v).ack = s.ack := by simp [State.writeWord]
@[simp] theorem State.writeWord_inRom (x v y : Word) : (s.writeWord x v).inRom y = s.inRom y :=
  State.inRom_congr (State.writeWord_rom s x v) y

/-! ## The stack -/

@[simp] theorem State.push16_a (v : Word) : (s.push16 v).a = s.a := by simp [State.push16]
@[simp] theorem State.push16_b (v : Word) : (s.push16 v).b = s.b := by simp [State.push16]
@[simp] theorem State.push16_c (v : Word) : (s.push16 v).c = s.c := by simp [State.push16]
@[simp] theorem State.push16_d (v : Word) : (s.push16 v).d = s.d := by simp [State.push16]
@[simp] theorem State.push16_e (v : Word) : (s.push16 v).e = s.e := by simp [State.push16]
@[simp] theorem State.push16_h (v : Word) : (s.push16 v).h = s.h := by simp [State.push16]
@[simp] theorem State.push16_l (v : Word) : (s.push16 v).l = s.l := by simp [State.push16]
@[simp] theorem State.push16_pc (v : Word) : (s.push16 v).pc = s.pc := by simp [State.push16]
@[simp] theorem State.push16_flags (v : Word) : (s.push16 v).flags = s.flags := by simp [State.push16]
@[simp] theorem State.push16_inte (v : Word) : (s.push16 v).inte = s.inte := by simp [State.push16]
@[simp] theorem State.push16_eiPending (v : Word) : (s.push16 v).eiPending = s.eiPending := by simp [State.push16]
@[simp] theorem State.push16_halted (v : Word) : (s.push16 v).halted = s.halted := by simp [State.push16]
@[simp] theorem State.push16_intPending (v : Word) : (s.push16 v).intPending = s.intPending := by simp [State.push16]
@[simp] theorem State.push16_intOpcode (v : Word) : (s.push16 v).intOpcode = s.intOpcode := by simp [State.push16]
@[simp] theorem State.push16_rom (v : Word) : (s.push16 v).rom = s.rom := by simp [State.push16]
@[simp] theorem State.push16_ioIn (v : Word) : (s.push16 v).ioIn = s.ioIn := by simp [State.push16]
@[simp] theorem State.push16_ioOut (v : Word) : (s.push16 v).ioOut = s.ioOut := by simp [State.push16]
@[simp] theorem State.push16_ack (v : Word) : (s.push16 v).ack = s.ack := by simp [State.push16]
@[simp] theorem State.push16_sp (v : Word) : (s.push16 v).sp = s.sp - 2 := by simp [State.push16]
@[simp] theorem State.dropTop_a : (s.dropTop).a = s.a := rfl
@[simp] theorem State.dropTop_b : (s.dropTop).b = s.b := rfl
@[simp] theorem State.dropTop_c : (s.dropTop).c = s.c := rfl
@[simp] theorem State.dropTop_d : (s.dropTop).d = s.d := rfl
@[simp] theorem State.dropTop_e : (s.dropTop).e = s.e := rfl
@[simp] theorem State.dropTop_h : (s.dropTop).h = s.h := rfl
@[simp] theorem State.dropTop_l : (s.dropTop).l = s.l := rfl
@[simp] theorem State.dropTop_pc : (s.dropTop).pc = s.pc := rfl
@[simp] theorem State.dropTop_flags : (s.dropTop).flags = s.flags := rfl
@[simp] theorem State.dropTop_inte : (s.dropTop).inte = s.inte := rfl
@[simp] theorem State.dropTop_eiPending : (s.dropTop).eiPending = s.eiPending := rfl
@[simp] theorem State.dropTop_halted : (s.dropTop).halted = s.halted := rfl
@[simp] theorem State.dropTop_intPending : (s.dropTop).intPending = s.intPending := rfl
@[simp] theorem State.dropTop_intOpcode : (s.dropTop).intOpcode = s.intOpcode := rfl
@[simp] theorem State.dropTop_rom : (s.dropTop).rom = s.rom := rfl
@[simp] theorem State.dropTop_mem : (s.dropTop).mem = s.mem := rfl
@[simp] theorem State.dropTop_ioIn : (s.dropTop).ioIn = s.ioIn := rfl
@[simp] theorem State.dropTop_ioOut : (s.dropTop).ioOut = s.ioOut := rfl
@[simp] theorem State.dropTop_ack : (s.dropTop).ack = s.ack := rfl
@[simp] theorem State.dropTop_sp : s.dropTop.sp = s.sp + 2 := rfl
@[simp] theorem State.returnTo_a : (s.returnTo).a = s.a := rfl
@[simp] theorem State.returnTo_b : (s.returnTo).b = s.b := rfl
@[simp] theorem State.returnTo_c : (s.returnTo).c = s.c := rfl
@[simp] theorem State.returnTo_d : (s.returnTo).d = s.d := rfl
@[simp] theorem State.returnTo_e : (s.returnTo).e = s.e := rfl
@[simp] theorem State.returnTo_h : (s.returnTo).h = s.h := rfl
@[simp] theorem State.returnTo_l : (s.returnTo).l = s.l := rfl
@[simp] theorem State.returnTo_flags : (s.returnTo).flags = s.flags := rfl
@[simp] theorem State.returnTo_inte : (s.returnTo).inte = s.inte := rfl
@[simp] theorem State.returnTo_eiPending : (s.returnTo).eiPending = s.eiPending := rfl
@[simp] theorem State.returnTo_halted : (s.returnTo).halted = s.halted := rfl
@[simp] theorem State.returnTo_intPending : (s.returnTo).intPending = s.intPending := rfl
@[simp] theorem State.returnTo_intOpcode : (s.returnTo).intOpcode = s.intOpcode := rfl
@[simp] theorem State.returnTo_rom : (s.returnTo).rom = s.rom := rfl
@[simp] theorem State.returnTo_mem : (s.returnTo).mem = s.mem := rfl
@[simp] theorem State.returnTo_ioIn : (s.returnTo).ioIn = s.ioIn := rfl
@[simp] theorem State.returnTo_ioOut : (s.returnTo).ioOut = s.ioOut := rfl
@[simp] theorem State.returnTo_ack : (s.returnTo).ack = s.ack := rfl
@[simp] theorem State.returnTo_sp : s.returnTo.sp = s.sp + 2 := rfl
@[simp] theorem State.returnTo_pc : s.returnTo.pc = s.stackTop := rfl
@[simp] theorem State.callTo_a (n : Nat) (x : Word) : (s.callTo n x).a = s.a := by simp [State.callTo]
@[simp] theorem State.callTo_b (n : Nat) (x : Word) : (s.callTo n x).b = s.b := by simp [State.callTo]
@[simp] theorem State.callTo_c (n : Nat) (x : Word) : (s.callTo n x).c = s.c := by simp [State.callTo]
@[simp] theorem State.callTo_d (n : Nat) (x : Word) : (s.callTo n x).d = s.d := by simp [State.callTo]
@[simp] theorem State.callTo_e (n : Nat) (x : Word) : (s.callTo n x).e = s.e := by simp [State.callTo]
@[simp] theorem State.callTo_h (n : Nat) (x : Word) : (s.callTo n x).h = s.h := by simp [State.callTo]
@[simp] theorem State.callTo_l (n : Nat) (x : Word) : (s.callTo n x).l = s.l := by simp [State.callTo]
@[simp] theorem State.callTo_flags (n : Nat) (x : Word) : (s.callTo n x).flags = s.flags := by simp [State.callTo]
@[simp] theorem State.callTo_inte (n : Nat) (x : Word) : (s.callTo n x).inte = s.inte := by simp [State.callTo]
@[simp] theorem State.callTo_eiPending (n : Nat) (x : Word) : (s.callTo n x).eiPending = s.eiPending := by simp [State.callTo]
@[simp] theorem State.callTo_halted (n : Nat) (x : Word) : (s.callTo n x).halted = s.halted := by simp [State.callTo]
@[simp] theorem State.callTo_intPending (n : Nat) (x : Word) : (s.callTo n x).intPending = s.intPending := by simp [State.callTo]
@[simp] theorem State.callTo_intOpcode (n : Nat) (x : Word) : (s.callTo n x).intOpcode = s.intOpcode := by simp [State.callTo]
@[simp] theorem State.callTo_rom (n : Nat) (x : Word) : (s.callTo n x).rom = s.rom := by simp [State.callTo]
@[simp] theorem State.callTo_ioIn (n : Nat) (x : Word) : (s.callTo n x).ioIn = s.ioIn := by simp [State.callTo]
@[simp] theorem State.callTo_ioOut (n : Nat) (x : Word) : (s.callTo n x).ioOut = s.ioOut := by simp [State.callTo]
@[simp] theorem State.callTo_ack (n : Nat) (x : Word) : (s.callTo n x).ack = s.ack := by simp [State.callTo]
@[simp] theorem State.callTo_sp (n : Nat) (x : Word) : (s.callTo n x).sp = s.sp - 2 := by simp [State.callTo]
@[simp] theorem State.callTo_pc (n : Nat) (x : Word) : (s.callTo n x).pc = x := rfl
@[simp] theorem State.callTo_mem (n : Nat) (x : Word) : (s.callTo n x).mem = (s.push16 (s.npc n)).mem := rfl

/-! ## Operands -/

@[simp] theorem State.setR8_sp (r : R8) (v : Byte) : (s.setR8 r v).sp = s.sp := by cases r <;> simp [State.setR8]
@[simp] theorem State.setR8_pc (r : R8) (v : Byte) : (s.setR8 r v).pc = s.pc := by cases r <;> simp [State.setR8]
@[simp] theorem State.setR8_flags (r : R8) (v : Byte) : (s.setR8 r v).flags = s.flags := by cases r <;> simp [State.setR8]
@[simp] theorem State.setR8_inte (r : R8) (v : Byte) : (s.setR8 r v).inte = s.inte := by cases r <;> simp [State.setR8]
@[simp] theorem State.setR8_eiPending (r : R8) (v : Byte) : (s.setR8 r v).eiPending = s.eiPending := by cases r <;> simp [State.setR8]
@[simp] theorem State.setR8_halted (r : R8) (v : Byte) : (s.setR8 r v).halted = s.halted := by cases r <;> simp [State.setR8]
@[simp] theorem State.setR8_intPending (r : R8) (v : Byte) : (s.setR8 r v).intPending = s.intPending := by cases r <;> simp [State.setR8]
@[simp] theorem State.setR8_intOpcode (r : R8) (v : Byte) : (s.setR8 r v).intOpcode = s.intOpcode := by cases r <;> simp [State.setR8]
@[simp] theorem State.setR8_rom (r : R8) (v : Byte) : (s.setR8 r v).rom = s.rom := by cases r <;> simp [State.setR8]
@[simp] theorem State.setR8_ioIn (r : R8) (v : Byte) : (s.setR8 r v).ioIn = s.ioIn := by cases r <;> simp [State.setR8]
@[simp] theorem State.setR8_ioOut (r : R8) (v : Byte) : (s.setR8 r v).ioOut = s.ioOut := by cases r <;> simp [State.setR8]
@[simp] theorem State.setR8_ack (r : R8) (v : Byte) : (s.setR8 r v).ack = s.ack := by cases r <;> simp [State.setR8]
@[simp] theorem State.setR8_a (r : R8) (v : Byte) : (s.setR8 r v).a = if r = .a then v else s.a := by cases r <;> simp [State.setR8]
@[simp] theorem State.setR8_b (r : R8) (v : Byte) : (s.setR8 r v).b = if r = .b then v else s.b := by cases r <;> simp [State.setR8]
@[simp] theorem State.setR8_c (r : R8) (v : Byte) : (s.setR8 r v).c = if r = .c then v else s.c := by cases r <;> simp [State.setR8]
@[simp] theorem State.setR8_d (r : R8) (v : Byte) : (s.setR8 r v).d = if r = .d then v else s.d := by cases r <;> simp [State.setR8]
@[simp] theorem State.setR8_e (r : R8) (v : Byte) : (s.setR8 r v).e = if r = .e then v else s.e := by cases r <;> simp [State.setR8]
@[simp] theorem State.setR8_h (r : R8) (v : Byte) : (s.setR8 r v).h = if r = .h then v else s.h := by cases r <;> simp [State.setR8]
@[simp] theorem State.setR8_l (r : R8) (v : Byte) : (s.setR8 r v).l = if r = .l then v else s.l := by cases r <;> simp [State.setR8]
@[simp] theorem State.setR8_mem (r : R8) (v : Byte) : (s.setR8 r v).mem = if r = .m then (s.writeByte s.hl v).mem else s.mem := by cases r <;> simp [State.setR8]
@[simp] theorem State.setRP_a (rp : RP) (v : Word) : (s.setRP rp v).a = s.a := by cases rp <;> rfl
@[simp] theorem State.setRP_pc (rp : RP) (v : Word) : (s.setRP rp v).pc = s.pc := by cases rp <;> rfl
@[simp] theorem State.setRP_flags (rp : RP) (v : Word) : (s.setRP rp v).flags = s.flags := by cases rp <;> rfl
@[simp] theorem State.setRP_inte (rp : RP) (v : Word) : (s.setRP rp v).inte = s.inte := by cases rp <;> rfl
@[simp] theorem State.setRP_eiPending (rp : RP) (v : Word) : (s.setRP rp v).eiPending = s.eiPending := by cases rp <;> rfl
@[simp] theorem State.setRP_halted (rp : RP) (v : Word) : (s.setRP rp v).halted = s.halted := by cases rp <;> rfl
@[simp] theorem State.setRP_intPending (rp : RP) (v : Word) : (s.setRP rp v).intPending = s.intPending := by cases rp <;> rfl
@[simp] theorem State.setRP_intOpcode (rp : RP) (v : Word) : (s.setRP rp v).intOpcode = s.intOpcode := by cases rp <;> rfl
@[simp] theorem State.setRP_rom (rp : RP) (v : Word) : (s.setRP rp v).rom = s.rom := by cases rp <;> rfl
@[simp] theorem State.setRP_mem (rp : RP) (v : Word) : (s.setRP rp v).mem = s.mem := by cases rp <;> rfl
@[simp] theorem State.setRP_ioIn (rp : RP) (v : Word) : (s.setRP rp v).ioIn = s.ioIn := by cases rp <;> rfl
@[simp] theorem State.setRP_ioOut (rp : RP) (v : Word) : (s.setRP rp v).ioOut = s.ioOut := by cases rp <;> rfl
@[simp] theorem State.setRP_ack (rp : RP) (v : Word) : (s.setRP rp v).ack = s.ack := by cases rp <;> rfl
@[simp] theorem State.setRP_b (rp : RP) (v : Word) : (s.setRP rp v).b = if rp = .bc then hiByte v else s.b := by cases rp <;> rfl
@[simp] theorem State.setRP_c (rp : RP) (v : Word) : (s.setRP rp v).c = if rp = .bc then loByte v else s.c := by cases rp <;> rfl
@[simp] theorem State.setRP_d (rp : RP) (v : Word) : (s.setRP rp v).d = if rp = .de then hiByte v else s.d := by cases rp <;> rfl
@[simp] theorem State.setRP_e (rp : RP) (v : Word) : (s.setRP rp v).e = if rp = .de then loByte v else s.e := by cases rp <;> rfl
@[simp] theorem State.setRP_h (rp : RP) (v : Word) : (s.setRP rp v).h = if rp = .hl then hiByte v else s.h := by cases rp <;> rfl
@[simp] theorem State.setRP_l (rp : RP) (v : Word) : (s.setRP rp v).l = if rp = .hl then loByte v else s.l := by cases rp <;> rfl
@[simp] theorem State.setRP_sp (rp : RP) (v : Word) : (s.setRP rp v).sp = if rp = .sp then v else s.sp := by cases rp <;> rfl
@[simp] theorem State.setStackRP_sp (rp : StackRP) (v : Word) : (s.setStackRP rp v).sp = s.sp := by cases rp <;> rfl
@[simp] theorem State.setStackRP_pc (rp : StackRP) (v : Word) : (s.setStackRP rp v).pc = s.pc := by cases rp <;> rfl
@[simp] theorem State.setStackRP_inte (rp : StackRP) (v : Word) : (s.setStackRP rp v).inte = s.inte := by cases rp <;> rfl
@[simp] theorem State.setStackRP_eiPending (rp : StackRP) (v : Word) : (s.setStackRP rp v).eiPending = s.eiPending := by cases rp <;> rfl
@[simp] theorem State.setStackRP_halted (rp : StackRP) (v : Word) : (s.setStackRP rp v).halted = s.halted := by cases rp <;> rfl
@[simp] theorem State.setStackRP_intPending (rp : StackRP) (v : Word) : (s.setStackRP rp v).intPending = s.intPending := by cases rp <;> rfl
@[simp] theorem State.setStackRP_intOpcode (rp : StackRP) (v : Word) : (s.setStackRP rp v).intOpcode = s.intOpcode := by cases rp <;> rfl
@[simp] theorem State.setStackRP_rom (rp : StackRP) (v : Word) : (s.setStackRP rp v).rom = s.rom := by cases rp <;> rfl
@[simp] theorem State.setStackRP_mem (rp : StackRP) (v : Word) : (s.setStackRP rp v).mem = s.mem := by cases rp <;> rfl
@[simp] theorem State.setStackRP_ioIn (rp : StackRP) (v : Word) : (s.setStackRP rp v).ioIn = s.ioIn := by cases rp <;> rfl
@[simp] theorem State.setStackRP_ioOut (rp : StackRP) (v : Word) : (s.setStackRP rp v).ioOut = s.ioOut := by cases rp <;> rfl
@[simp] theorem State.setStackRP_ack (rp : StackRP) (v : Word) : (s.setStackRP rp v).ack = s.ack := by cases rp <;> rfl
@[simp] theorem State.setStackRP_a (rp : StackRP) (v : Word) : (s.setStackRP rp v).a = if rp = .psw then hiByte v else s.a := by cases rp <;> rfl
@[simp] theorem State.setStackRP_b (rp : StackRP) (v : Word) : (s.setStackRP rp v).b = if rp = .bc then hiByte v else s.b := by cases rp <;> rfl
@[simp] theorem State.setStackRP_c (rp : StackRP) (v : Word) : (s.setStackRP rp v).c = if rp = .bc then loByte v else s.c := by cases rp <;> rfl
@[simp] theorem State.setStackRP_d (rp : StackRP) (v : Word) : (s.setStackRP rp v).d = if rp = .de then hiByte v else s.d := by cases rp <;> rfl
@[simp] theorem State.setStackRP_e (rp : StackRP) (v : Word) : (s.setStackRP rp v).e = if rp = .de then loByte v else s.e := by cases rp <;> rfl
@[simp] theorem State.setStackRP_h (rp : StackRP) (v : Word) : (s.setStackRP rp v).h = if rp = .hl then hiByte v else s.h := by cases rp <;> rfl
@[simp] theorem State.setStackRP_l (rp : StackRP) (v : Word) : (s.setStackRP rp v).l = if rp = .hl then loByte v else s.l := by cases rp <;> rfl
@[simp] theorem State.setStackRP_flags (rp : StackRP) (v : Word) : (s.setStackRP rp v).flags = if rp = .psw then setFlagByte (loByte v) else s.flags := by cases rp <;> rfl

/-! ## A and the flags -/

@[simp] theorem State.setAF_b (r : Byte × Flags) : (s.setAF r).b = s.b := rfl
@[simp] theorem State.setAF_c (r : Byte × Flags) : (s.setAF r).c = s.c := rfl
@[simp] theorem State.setAF_d (r : Byte × Flags) : (s.setAF r).d = s.d := rfl
@[simp] theorem State.setAF_e (r : Byte × Flags) : (s.setAF r).e = s.e := rfl
@[simp] theorem State.setAF_h (r : Byte × Flags) : (s.setAF r).h = s.h := rfl
@[simp] theorem State.setAF_l (r : Byte × Flags) : (s.setAF r).l = s.l := rfl
@[simp] theorem State.setAF_sp (r : Byte × Flags) : (s.setAF r).sp = s.sp := rfl
@[simp] theorem State.setAF_pc (r : Byte × Flags) : (s.setAF r).pc = s.pc := rfl
@[simp] theorem State.setAF_inte (r : Byte × Flags) : (s.setAF r).inte = s.inte := rfl
@[simp] theorem State.setAF_eiPending (r : Byte × Flags) : (s.setAF r).eiPending = s.eiPending := rfl
@[simp] theorem State.setAF_halted (r : Byte × Flags) : (s.setAF r).halted = s.halted := rfl
@[simp] theorem State.setAF_intPending (r : Byte × Flags) : (s.setAF r).intPending = s.intPending := rfl
@[simp] theorem State.setAF_intOpcode (r : Byte × Flags) : (s.setAF r).intOpcode = s.intOpcode := rfl
@[simp] theorem State.setAF_rom (r : Byte × Flags) : (s.setAF r).rom = s.rom := rfl
@[simp] theorem State.setAF_mem (r : Byte × Flags) : (s.setAF r).mem = s.mem := rfl
@[simp] theorem State.setAF_ioIn (r : Byte × Flags) : (s.setAF r).ioIn = s.ioIn := rfl
@[simp] theorem State.setAF_ioOut (r : Byte × Flags) : (s.setAF r).ioOut = s.ioOut := rfl
@[simp] theorem State.setAF_ack (r : Byte × Flags) : (s.setAF r).ack = s.ack := rfl
@[simp] theorem State.setAF_a (r : Byte × Flags) : (s.setAF r).a = r.1 := rfl
@[simp] theorem State.setAF_flags (r : Byte × Flags) : (s.setAF r).flags = r.2 := rfl
@[simp] theorem State.setF_a (r : Byte × Flags) : (s.setF r).a = s.a := rfl
@[simp] theorem State.setF_b (r : Byte × Flags) : (s.setF r).b = s.b := rfl
@[simp] theorem State.setF_c (r : Byte × Flags) : (s.setF r).c = s.c := rfl
@[simp] theorem State.setF_d (r : Byte × Flags) : (s.setF r).d = s.d := rfl
@[simp] theorem State.setF_e (r : Byte × Flags) : (s.setF r).e = s.e := rfl
@[simp] theorem State.setF_h (r : Byte × Flags) : (s.setF r).h = s.h := rfl
@[simp] theorem State.setF_l (r : Byte × Flags) : (s.setF r).l = s.l := rfl
@[simp] theorem State.setF_sp (r : Byte × Flags) : (s.setF r).sp = s.sp := rfl
@[simp] theorem State.setF_pc (r : Byte × Flags) : (s.setF r).pc = s.pc := rfl
@[simp] theorem State.setF_inte (r : Byte × Flags) : (s.setF r).inte = s.inte := rfl
@[simp] theorem State.setF_eiPending (r : Byte × Flags) : (s.setF r).eiPending = s.eiPending := rfl
@[simp] theorem State.setF_halted (r : Byte × Flags) : (s.setF r).halted = s.halted := rfl
@[simp] theorem State.setF_intPending (r : Byte × Flags) : (s.setF r).intPending = s.intPending := rfl
@[simp] theorem State.setF_intOpcode (r : Byte × Flags) : (s.setF r).intOpcode = s.intOpcode := rfl
@[simp] theorem State.setF_rom (r : Byte × Flags) : (s.setF r).rom = s.rom := rfl
@[simp] theorem State.setF_mem (r : Byte × Flags) : (s.setF r).mem = s.mem := rfl
@[simp] theorem State.setF_ioIn (r : Byte × Flags) : (s.setF r).ioIn = s.ioIn := rfl
@[simp] theorem State.setF_ioOut (r : Byte × Flags) : (s.setF r).ioOut = s.ioOut := rfl
@[simp] theorem State.setF_ack (r : Byte × Flags) : (s.setF r).ack = s.ack := rfl
@[simp] theorem State.setF_flags (r : Byte × Flags) : (s.setF r).flags = r.2 := rfl
@[simp] theorem State.setLogic_b (r : Byte) : (s.setLogic r).b = s.b := rfl
@[simp] theorem State.setLogic_c (r : Byte) : (s.setLogic r).c = s.c := rfl
@[simp] theorem State.setLogic_d (r : Byte) : (s.setLogic r).d = s.d := rfl
@[simp] theorem State.setLogic_e (r : Byte) : (s.setLogic r).e = s.e := rfl
@[simp] theorem State.setLogic_h (r : Byte) : (s.setLogic r).h = s.h := rfl
@[simp] theorem State.setLogic_l (r : Byte) : (s.setLogic r).l = s.l := rfl
@[simp] theorem State.setLogic_sp (r : Byte) : (s.setLogic r).sp = s.sp := rfl
@[simp] theorem State.setLogic_pc (r : Byte) : (s.setLogic r).pc = s.pc := rfl
@[simp] theorem State.setLogic_inte (r : Byte) : (s.setLogic r).inte = s.inte := rfl
@[simp] theorem State.setLogic_eiPending (r : Byte) : (s.setLogic r).eiPending = s.eiPending := rfl
@[simp] theorem State.setLogic_halted (r : Byte) : (s.setLogic r).halted = s.halted := rfl
@[simp] theorem State.setLogic_intPending (r : Byte) : (s.setLogic r).intPending = s.intPending := rfl
@[simp] theorem State.setLogic_intOpcode (r : Byte) : (s.setLogic r).intOpcode = s.intOpcode := rfl
@[simp] theorem State.setLogic_rom (r : Byte) : (s.setLogic r).rom = s.rom := rfl
@[simp] theorem State.setLogic_mem (r : Byte) : (s.setLogic r).mem = s.mem := rfl
@[simp] theorem State.setLogic_ioIn (r : Byte) : (s.setLogic r).ioIn = s.ioIn := rfl
@[simp] theorem State.setLogic_ioOut (r : Byte) : (s.setLogic r).ioOut = s.ioOut := rfl
@[simp] theorem State.setLogic_ack (r : Byte) : (s.setLogic r).ack = s.ack := rfl
@[simp] theorem State.setLogic_a (r : Byte) : (s.setLogic r).a = r := rfl
@[simp] theorem State.setLogic_flags (r : Byte) : (s.setLogic r).flags = orFlags s.flags r := rfl
@[simp] theorem State.setRotated_b (r : Byte × Bool) : (s.setRotated r).b = s.b := rfl
@[simp] theorem State.setRotated_c (r : Byte × Bool) : (s.setRotated r).c = s.c := rfl
@[simp] theorem State.setRotated_d (r : Byte × Bool) : (s.setRotated r).d = s.d := rfl
@[simp] theorem State.setRotated_e (r : Byte × Bool) : (s.setRotated r).e = s.e := rfl
@[simp] theorem State.setRotated_h (r : Byte × Bool) : (s.setRotated r).h = s.h := rfl
@[simp] theorem State.setRotated_l (r : Byte × Bool) : (s.setRotated r).l = s.l := rfl
@[simp] theorem State.setRotated_sp (r : Byte × Bool) : (s.setRotated r).sp = s.sp := rfl
@[simp] theorem State.setRotated_pc (r : Byte × Bool) : (s.setRotated r).pc = s.pc := rfl
@[simp] theorem State.setRotated_inte (r : Byte × Bool) : (s.setRotated r).inte = s.inte := rfl
@[simp] theorem State.setRotated_eiPending (r : Byte × Bool) : (s.setRotated r).eiPending = s.eiPending := rfl
@[simp] theorem State.setRotated_halted (r : Byte × Bool) : (s.setRotated r).halted = s.halted := rfl
@[simp] theorem State.setRotated_intPending (r : Byte × Bool) : (s.setRotated r).intPending = s.intPending := rfl
@[simp] theorem State.setRotated_intOpcode (r : Byte × Bool) : (s.setRotated r).intOpcode = s.intOpcode := rfl
@[simp] theorem State.setRotated_rom (r : Byte × Bool) : (s.setRotated r).rom = s.rom := rfl
@[simp] theorem State.setRotated_mem (r : Byte × Bool) : (s.setRotated r).mem = s.mem := rfl
@[simp] theorem State.setRotated_ioIn (r : Byte × Bool) : (s.setRotated r).ioIn = s.ioIn := rfl
@[simp] theorem State.setRotated_ioOut (r : Byte × Bool) : (s.setRotated r).ioOut = s.ioOut := rfl
@[simp] theorem State.setRotated_ack (r : Byte × Bool) : (s.setRotated r).ack = s.ack := rfl
@[simp] theorem State.setRotated_a (r : Byte × Bool) : (s.setRotated r).a = r.1 := rfl
@[simp] theorem State.setRotated_flags (r : Byte × Bool) : (s.setRotated r).flags = { s.flags with c := r.2 } := rfl
@[simp] theorem State.setCounted_sp (dst : R8) (r : Byte × Flags) : (s.setCounted dst r).sp = s.sp := by simp [State.setCounted]
@[simp] theorem State.setCounted_pc (dst : R8) (r : Byte × Flags) : (s.setCounted dst r).pc = s.pc := by simp [State.setCounted]
@[simp] theorem State.setCounted_inte (dst : R8) (r : Byte × Flags) : (s.setCounted dst r).inte = s.inte := by simp [State.setCounted]
@[simp] theorem State.setCounted_eiPending (dst : R8) (r : Byte × Flags) : (s.setCounted dst r).eiPending = s.eiPending := by simp [State.setCounted]
@[simp] theorem State.setCounted_halted (dst : R8) (r : Byte × Flags) : (s.setCounted dst r).halted = s.halted := by simp [State.setCounted]
@[simp] theorem State.setCounted_intPending (dst : R8) (r : Byte × Flags) : (s.setCounted dst r).intPending = s.intPending := by simp [State.setCounted]
@[simp] theorem State.setCounted_intOpcode (dst : R8) (r : Byte × Flags) : (s.setCounted dst r).intOpcode = s.intOpcode := by simp [State.setCounted]
@[simp] theorem State.setCounted_rom (dst : R8) (r : Byte × Flags) : (s.setCounted dst r).rom = s.rom := by simp [State.setCounted]
@[simp] theorem State.setCounted_ioIn (dst : R8) (r : Byte × Flags) : (s.setCounted dst r).ioIn = s.ioIn := by simp [State.setCounted]
@[simp] theorem State.setCounted_ioOut (dst : R8) (r : Byte × Flags) : (s.setCounted dst r).ioOut = s.ioOut := by simp [State.setCounted]
@[simp] theorem State.setCounted_ack (dst : R8) (r : Byte × Flags) : (s.setCounted dst r).ack = s.ack := by simp [State.setCounted]
@[simp] theorem State.setCounted_flags (dst : R8) (r : Byte × Flags) : (s.setCounted dst r).flags = { r.2 with c := s.flags.c } := by simp [State.setCounted]
@[simp] theorem State.setCounted_a (dst : R8) (r : Byte × Flags) : (s.setCounted dst r).a = if dst = .a then r.1 else s.a := by simp [State.setCounted]
@[simp] theorem State.setCounted_b (dst : R8) (r : Byte × Flags) : (s.setCounted dst r).b = if dst = .b then r.1 else s.b := by simp [State.setCounted]
@[simp] theorem State.setCounted_c (dst : R8) (r : Byte × Flags) : (s.setCounted dst r).c = if dst = .c then r.1 else s.c := by simp [State.setCounted]
@[simp] theorem State.setCounted_d (dst : R8) (r : Byte × Flags) : (s.setCounted dst r).d = if dst = .d then r.1 else s.d := by simp [State.setCounted]
@[simp] theorem State.setCounted_e (dst : R8) (r : Byte × Flags) : (s.setCounted dst r).e = if dst = .e then r.1 else s.e := by simp [State.setCounted]
@[simp] theorem State.setCounted_h (dst : R8) (r : Byte × Flags) : (s.setCounted dst r).h = if dst = .h then r.1 else s.h := by simp [State.setCounted]
@[simp] theorem State.setCounted_l (dst : R8) (r : Byte × Flags) : (s.setCounted dst r).l = if dst = .l then r.1 else s.l := by simp [State.setCounted]
@[simp] theorem State.setCounted_mem (dst : R8) (r : Byte × Flags) : (s.setCounted dst r).mem = if dst = .m then (s.writeByte s.hl r.1).mem else s.mem := by
  cases dst <;> simp only [reduceCtorEq, if_true, if_false] <;> try rfl
  simp only [State.setCounted, State.setR8, State.writeByte_mem]
  rfl

/-! ## `npc` and the conditional transfers -/

/-- `npc` depends on PC and `ack` alone. -/
theorem State.npc_congr {s t : State} (hp : t.pc = s.pc) (ha : t.ack = s.ack) (n : Nat) : t.npc n = s.npc n := by
  simp only [State.npc, hp, ha]

@[simp] theorem State.writeByte_npc (x : Word) (v : Byte) (n : Nat) : (s.writeByte x v).npc n = s.npc n := State.npc_congr (by simp) (by simp) n
@[simp] theorem State.writeWord_npc (x v : Word) (n : Nat) : (s.writeWord x v).npc n = s.npc n := State.npc_congr (by simp) (by simp) n
@[simp] theorem State.push16_npc (v : Word) (n : Nat) : (s.push16 v).npc n = s.npc n := State.npc_congr (by simp) (by simp) n
@[simp] theorem State.dropTop_npc (n : Nat) : (s.dropTop).npc n = s.npc n := State.npc_congr (by simp) (by simp) n
@[simp] theorem State.setR8_npc (r : R8) (v : Byte) (n : Nat) : (s.setR8 r v).npc n = s.npc n := State.npc_congr (by simp) (by simp) n
@[simp] theorem State.setRP_npc (rp : RP) (v : Word) (n : Nat) : (s.setRP rp v).npc n = s.npc n := State.npc_congr (by simp) (by simp) n
@[simp] theorem State.setStackRP_npc (rp : StackRP) (v : Word) (n : Nat) : (s.setStackRP rp v).npc n = s.npc n := State.npc_congr (by simp) (by simp) n
@[simp] theorem State.setAF_npc (r : Byte × Flags) (n : Nat) : (s.setAF r).npc n = s.npc n := State.npc_congr (by simp) (by simp) n
@[simp] theorem State.setF_npc (r : Byte × Flags) (n : Nat) : (s.setF r).npc n = s.npc n := State.npc_congr (by simp) (by simp) n
@[simp] theorem State.setLogic_npc (r : Byte) (n : Nat) : (s.setLogic r).npc n = s.npc n := State.npc_congr (by simp) (by simp) n
@[simp] theorem State.setRotated_npc (r : Byte × Bool) (n : Nat) : (s.setRotated r).npc n = s.npc n := State.npc_congr (by simp) (by simp) n
@[simp] theorem State.setCounted_npc (dst : R8) (r : Byte × Flags) (n : Nat) : (s.setCounted dst r).npc n = s.npc n := State.npc_congr (by simp) (by simp) n

@[simp] theorem State.jumpIf_a (cond : Cond) (x : Word) : (s.jumpIf cond x).a = s.a := by
  unfold State.jumpIf; split <;> simp
@[simp] theorem State.jumpIf_b (cond : Cond) (x : Word) : (s.jumpIf cond x).b = s.b := by
  unfold State.jumpIf; split <;> simp
@[simp] theorem State.jumpIf_c (cond : Cond) (x : Word) : (s.jumpIf cond x).c = s.c := by
  unfold State.jumpIf; split <;> simp
@[simp] theorem State.jumpIf_d (cond : Cond) (x : Word) : (s.jumpIf cond x).d = s.d := by
  unfold State.jumpIf; split <;> simp
@[simp] theorem State.jumpIf_e (cond : Cond) (x : Word) : (s.jumpIf cond x).e = s.e := by
  unfold State.jumpIf; split <;> simp
@[simp] theorem State.jumpIf_h (cond : Cond) (x : Word) : (s.jumpIf cond x).h = s.h := by
  unfold State.jumpIf; split <;> simp
@[simp] theorem State.jumpIf_l (cond : Cond) (x : Word) : (s.jumpIf cond x).l = s.l := by
  unfold State.jumpIf; split <;> simp
@[simp] theorem State.jumpIf_sp (cond : Cond) (x : Word) : (s.jumpIf cond x).sp = s.sp := by
  unfold State.jumpIf; split <;> simp
@[simp] theorem State.jumpIf_pc (cond : Cond) (x : Word) : (s.jumpIf cond x).pc = if condHolds s.flags cond then x else s.npc 3 := by
  unfold State.jumpIf; split <;> simp [*]
@[simp] theorem State.jumpIf_flags (cond : Cond) (x : Word) : (s.jumpIf cond x).flags = s.flags := by
  unfold State.jumpIf; split <;> simp
@[simp] theorem State.jumpIf_inte (cond : Cond) (x : Word) : (s.jumpIf cond x).inte = s.inte := by
  unfold State.jumpIf; split <;> simp
@[simp] theorem State.jumpIf_eiPending (cond : Cond) (x : Word) : (s.jumpIf cond x).eiPending = s.eiPending := by
  unfold State.jumpIf; split <;> simp
@[simp] theorem State.jumpIf_halted (cond : Cond) (x : Word) : (s.jumpIf cond x).halted = s.halted := by
  unfold State.jumpIf; split <;> simp
@[simp] theorem State.jumpIf_intPending (cond : Cond) (x : Word) : (s.jumpIf cond x).intPending = s.intPending := by
  unfold State.jumpIf; split <;> simp
@[simp] theorem State.jumpIf_intOpcode (cond : Cond) (x : Word) : (s.jumpIf cond x).intOpcode = s.intOpcode := by
  unfold State.jumpIf; split <;> simp
@[simp] theorem State.jumpIf_rom (cond : Cond) (x : Word) : (s.jumpIf cond x).rom = s.rom := by
  unfold State.jumpIf; split <;> simp
@[simp] theorem State.jumpIf_mem (cond : Cond) (x : Word) : (s.jumpIf cond x).mem = s.mem := by
  unfold State.jumpIf; split <;> simp
@[simp] theorem State.jumpIf_ioIn (cond : Cond) (x : Word) : (s.jumpIf cond x).ioIn = s.ioIn := by
  unfold State.jumpIf; split <;> simp
@[simp] theorem State.jumpIf_ioOut (cond : Cond) (x : Word) : (s.jumpIf cond x).ioOut = s.ioOut := by
  unfold State.jumpIf; split <;> simp
@[simp] theorem State.jumpIf_ack (cond : Cond) (x : Word) : (s.jumpIf cond x).ack = s.ack := by
  unfold State.jumpIf; split <;> simp
@[simp] theorem State.callIf_a (cond : Cond) (x : Word) : (s.callIf cond x).a = s.a := by
  unfold State.callIf; split <;> simp
@[simp] theorem State.callIf_b (cond : Cond) (x : Word) : (s.callIf cond x).b = s.b := by
  unfold State.callIf; split <;> simp
@[simp] theorem State.callIf_c (cond : Cond) (x : Word) : (s.callIf cond x).c = s.c := by
  unfold State.callIf; split <;> simp
@[simp] theorem State.callIf_d (cond : Cond) (x : Word) : (s.callIf cond x).d = s.d := by
  unfold State.callIf; split <;> simp
@[simp] theorem State.callIf_e (cond : Cond) (x : Word) : (s.callIf cond x).e = s.e := by
  unfold State.callIf; split <;> simp
@[simp] theorem State.callIf_h (cond : Cond) (x : Word) : (s.callIf cond x).h = s.h := by
  unfold State.callIf; split <;> simp
@[simp] theorem State.callIf_l (cond : Cond) (x : Word) : (s.callIf cond x).l = s.l := by
  unfold State.callIf; split <;> simp
@[simp] theorem State.callIf_sp (cond : Cond) (x : Word) : (s.callIf cond x).sp = if condHolds s.flags cond then s.sp - 2 else s.sp := by
  unfold State.callIf; split <;> simp [*]
@[simp] theorem State.callIf_pc (cond : Cond) (x : Word) : (s.callIf cond x).pc = if condHolds s.flags cond then x else s.npc 3 := by
  unfold State.callIf; split <;> simp [*]
@[simp] theorem State.callIf_flags (cond : Cond) (x : Word) : (s.callIf cond x).flags = s.flags := by
  unfold State.callIf; split <;> simp
@[simp] theorem State.callIf_inte (cond : Cond) (x : Word) : (s.callIf cond x).inte = s.inte := by
  unfold State.callIf; split <;> simp
@[simp] theorem State.callIf_eiPending (cond : Cond) (x : Word) : (s.callIf cond x).eiPending = s.eiPending := by
  unfold State.callIf; split <;> simp
@[simp] theorem State.callIf_halted (cond : Cond) (x : Word) : (s.callIf cond x).halted = s.halted := by
  unfold State.callIf; split <;> simp
@[simp] theorem State.callIf_intPending (cond : Cond) (x : Word) : (s.callIf cond x).intPending = s.intPending := by
  unfold State.callIf; split <;> simp
@[simp] theorem State.callIf_intOpcode (cond : Cond) (x : Word) : (s.callIf cond x).intOpcode = s.intOpcode := by
  unfold State.callIf; split <;> simp
@[simp] theorem State.callIf_rom (cond : Cond) (x : Word) : (s.callIf cond x).rom = s.rom := by
  unfold State.callIf; split <;> simp
@[simp] theorem State.callIf_mem (cond : Cond) (x : Word) : (s.callIf cond x).mem = if condHolds s.flags cond then (s.push16 (s.npc 3)).mem else s.mem := by
  unfold State.callIf; split <;> simp [*]
@[simp] theorem State.callIf_ioIn (cond : Cond) (x : Word) : (s.callIf cond x).ioIn = s.ioIn := by
  unfold State.callIf; split <;> simp
@[simp] theorem State.callIf_ioOut (cond : Cond) (x : Word) : (s.callIf cond x).ioOut = s.ioOut := by
  unfold State.callIf; split <;> simp
@[simp] theorem State.callIf_ack (cond : Cond) (x : Word) : (s.callIf cond x).ack = s.ack := by
  unfold State.callIf; split <;> simp
@[simp] theorem State.returnIf_a (cond : Cond) : (s.returnIf cond).a = s.a := by
  unfold State.returnIf; split <;> simp
@[simp] theorem State.returnIf_b (cond : Cond) : (s.returnIf cond).b = s.b := by
  unfold State.returnIf; split <;> simp
@[simp] theorem State.returnIf_c (cond : Cond) : (s.returnIf cond).c = s.c := by
  unfold State.returnIf; split <;> simp
@[simp] theorem State.returnIf_d (cond : Cond) : (s.returnIf cond).d = s.d := by
  unfold State.returnIf; split <;> simp
@[simp] theorem State.returnIf_e (cond : Cond) : (s.returnIf cond).e = s.e := by
  unfold State.returnIf; split <;> simp
@[simp] theorem State.returnIf_h (cond : Cond) : (s.returnIf cond).h = s.h := by
  unfold State.returnIf; split <;> simp
@[simp] theorem State.returnIf_l (cond : Cond) : (s.returnIf cond).l = s.l := by
  unfold State.returnIf; split <;> simp
@[simp] theorem State.returnIf_sp (cond : Cond) : (s.returnIf cond).sp = if condHolds s.flags cond then s.sp + 2 else s.sp := by
  unfold State.returnIf; split <;> simp [*]
@[simp] theorem State.returnIf_pc (cond : Cond) : (s.returnIf cond).pc = if condHolds s.flags cond then s.stackTop else s.npc 1 := by
  unfold State.returnIf; split <;> simp [*]
@[simp] theorem State.returnIf_flags (cond : Cond) : (s.returnIf cond).flags = s.flags := by
  unfold State.returnIf; split <;> simp
@[simp] theorem State.returnIf_inte (cond : Cond) : (s.returnIf cond).inte = s.inte := by
  unfold State.returnIf; split <;> simp
@[simp] theorem State.returnIf_eiPending (cond : Cond) : (s.returnIf cond).eiPending = s.eiPending := by
  unfold State.returnIf; split <;> simp
@[simp] theorem State.returnIf_halted (cond : Cond) : (s.returnIf cond).halted = s.halted := by
  unfold State.returnIf; split <;> simp
@[simp] theorem State.returnIf_intPending (cond : Cond) : (s.returnIf cond).intPending = s.intPending := by
  unfold State.returnIf; split <;> simp
@[simp] theorem State.returnIf_intOpcode (cond : Cond) : (s.returnIf cond).intOpcode = s.intOpcode := by
  unfold State.returnIf; split <;> simp
@[simp] theorem State.returnIf_rom (cond : Cond) : (s.returnIf cond).rom = s.rom := by
  unfold State.returnIf; split <;> simp
@[simp] theorem State.returnIf_mem (cond : Cond) : (s.returnIf cond).mem = s.mem := by
  unfold State.returnIf; split <;> simp
@[simp] theorem State.returnIf_ioIn (cond : Cond) : (s.returnIf cond).ioIn = s.ioIn := by
  unfold State.returnIf; split <;> simp
@[simp] theorem State.returnIf_ioOut (cond : Cond) : (s.returnIf cond).ioOut = s.ioOut := by
  unfold State.returnIf; split <;> simp
@[simp] theorem State.returnIf_ack (cond : Cond) : (s.returnIf cond).ack = s.ack := by
  unfold State.returnIf; split <;> simp

/-! ## Phases of the step -/

@[simp] theorem State.acknowledge_a : (s.acknowledge).a = s.a := rfl
@[simp] theorem State.acknowledge_b : (s.acknowledge).b = s.b := rfl
@[simp] theorem State.acknowledge_c : (s.acknowledge).c = s.c := rfl
@[simp] theorem State.acknowledge_d : (s.acknowledge).d = s.d := rfl
@[simp] theorem State.acknowledge_e : (s.acknowledge).e = s.e := rfl
@[simp] theorem State.acknowledge_h : (s.acknowledge).h = s.h := rfl
@[simp] theorem State.acknowledge_l : (s.acknowledge).l = s.l := rfl
@[simp] theorem State.acknowledge_sp : (s.acknowledge).sp = s.sp := rfl
@[simp] theorem State.acknowledge_pc : (s.acknowledge).pc = s.pc := rfl
@[simp] theorem State.acknowledge_flags : (s.acknowledge).flags = s.flags := rfl
@[simp] theorem State.acknowledge_intOpcode : (s.acknowledge).intOpcode = s.intOpcode := rfl
@[simp] theorem State.acknowledge_rom : (s.acknowledge).rom = s.rom := rfl
@[simp] theorem State.acknowledge_mem : (s.acknowledge).mem = s.mem := rfl
@[simp] theorem State.acknowledge_ioIn : (s.acknowledge).ioIn = s.ioIn := rfl
@[simp] theorem State.acknowledge_ioOut : (s.acknowledge).ioOut = s.ioOut := rfl
@[simp] theorem State.acknowledge_inte : s.acknowledge.inte = false := rfl
@[simp] theorem State.acknowledge_intPending : s.acknowledge.intPending = false := rfl
@[simp] theorem State.acknowledge_halted : s.acknowledge.halted = false := rfl
@[simp] theorem State.acknowledge_eiPending : s.acknowledge.eiPending = false := rfl
@[simp] theorem State.acknowledge_ack : s.acknowledge.ack = true := rfl

theorem State.promoteEi_eq : s.promoteEi = { s with inte := s.inte || s.eiPending, eiPending := false } := by
  unfold State.promoteEi
  split <;> rename_i h <;> cases s <;> simp_all

@[simp] theorem State.promoteEi_a : (s.promoteEi).a = s.a := by rw [State.promoteEi_eq]
@[simp] theorem State.promoteEi_b : (s.promoteEi).b = s.b := by rw [State.promoteEi_eq]
@[simp] theorem State.promoteEi_c : (s.promoteEi).c = s.c := by rw [State.promoteEi_eq]
@[simp] theorem State.promoteEi_d : (s.promoteEi).d = s.d := by rw [State.promoteEi_eq]
@[simp] theorem State.promoteEi_e : (s.promoteEi).e = s.e := by rw [State.promoteEi_eq]
@[simp] theorem State.promoteEi_h : (s.promoteEi).h = s.h := by rw [State.promoteEi_eq]
@[simp] theorem State.promoteEi_l : (s.promoteEi).l = s.l := by rw [State.promoteEi_eq]
@[simp] theorem State.promoteEi_sp : (s.promoteEi).sp = s.sp := by rw [State.promoteEi_eq]
@[simp] theorem State.promoteEi_pc : (s.promoteEi).pc = s.pc := by rw [State.promoteEi_eq]
@[simp] theorem State.promoteEi_flags : (s.promoteEi).flags = s.flags := by rw [State.promoteEi_eq]
@[simp] theorem State.promoteEi_halted : (s.promoteEi).halted = s.halted := by rw [State.promoteEi_eq]
@[simp] theorem State.promoteEi_intPending : (s.promoteEi).intPending = s.intPending := by rw [State.promoteEi_eq]
@[simp] theorem State.promoteEi_intOpcode : (s.promoteEi).intOpcode = s.intOpcode := by rw [State.promoteEi_eq]
@[simp] theorem State.promoteEi_rom : (s.promoteEi).rom = s.rom := by rw [State.promoteEi_eq]
@[simp] theorem State.promoteEi_mem : (s.promoteEi).mem = s.mem := by rw [State.promoteEi_eq]
@[simp] theorem State.promoteEi_ioIn : (s.promoteEi).ioIn = s.ioIn := by rw [State.promoteEi_eq]
@[simp] theorem State.promoteEi_ioOut : (s.promoteEi).ioOut = s.ioOut := by rw [State.promoteEi_eq]
@[simp] theorem State.promoteEi_ack : (s.promoteEi).ack = s.ack := by rw [State.promoteEi_eq]
@[simp] theorem State.promoteEi_inte : s.promoteEi.inte = (s.inte || s.eiPending) := by rw [State.promoteEi_eq]
@[simp] theorem State.promoteEi_eiPending : s.promoteEi.eiPending = false := by rw [State.promoteEi_eq]
@[simp] theorem State.beginFetched_a : (s.beginFetched).a = s.a := by simp [State.beginFetched]
@[simp] theorem State.beginFetched_b : (s.beginFetched).b = s.b := by simp [State.beginFetched]
@[simp] theorem State.beginFetched_c : (s.beginFetched).c = s.c := by simp [State.beginFetched]
@[simp] theorem State.beginFetched_d : (s.beginFetched).d = s.d := by simp [State.beginFetched]
@[simp] theorem State.beginFetched_e : (s.beginFetched).e = s.e := by simp [State.beginFetched]
@[simp] theorem State.beginFetched_h : (s.beginFetched).h = s.h := by simp [State.beginFetched]
@[simp] theorem State.beginFetched_l : (s.beginFetched).l = s.l := by simp [State.beginFetched]
@[simp] theorem State.beginFetched_sp : (s.beginFetched).sp = s.sp := by simp [State.beginFetched]
@[simp] theorem State.beginFetched_pc : (s.beginFetched).pc = s.pc := by simp [State.beginFetched]
@[simp] theorem State.beginFetched_flags : (s.beginFetched).flags = s.flags := by simp [State.beginFetched]
@[simp] theorem State.beginFetched_halted : (s.beginFetched).halted = s.halted := by simp [State.beginFetched]
@[simp] theorem State.beginFetched_intPending : (s.beginFetched).intPending = s.intPending := by simp [State.beginFetched]
@[simp] theorem State.beginFetched_intOpcode : (s.beginFetched).intOpcode = s.intOpcode := by simp [State.beginFetched]
@[simp] theorem State.beginFetched_rom : (s.beginFetched).rom = s.rom := by simp [State.beginFetched]
@[simp] theorem State.beginFetched_mem : (s.beginFetched).mem = s.mem := by simp [State.beginFetched]
@[simp] theorem State.beginFetched_ioIn : (s.beginFetched).ioIn = s.ioIn := by simp [State.beginFetched]
@[simp] theorem State.beginFetched_ioOut : (s.beginFetched).ioOut = s.ioOut := by simp [State.beginFetched]
@[simp] theorem State.beginFetched_inte : s.beginFetched.inte = (s.inte || s.eiPending) := by simp [State.beginFetched]
@[simp] theorem State.beginFetched_eiPending : s.beginFetched.eiPending = false := by simp [State.beginFetched]
@[simp] theorem State.beginFetched_ack : s.beginFetched.ack = false := by simp [State.beginFetched]

/-- An acknowledge cancels a pending enable, so there is nothing left to promote (R306). -/
@[simp] theorem State.beginAcknowledged_eq : s.beginAcknowledged = s.acknowledge := by
  simp [State.beginAcknowledged, State.promoteEi_eq, State.acknowledge]

end Sys2Proof.Machine
end

