-- ==== Sys2Proof/Laws/Flags.lean ====
section
/-! SUPPORT. The small lemmas of the flag unit: which flags each helper writes, whatever they were. -/

namespace Sys2Proof.Machine

@[simp] theorem szp_s (f : Flags) (v : Byte) : (szp f v).s = v.getLsbD 7 := rfl
@[simp] theorem szp_z (f : Flags) (v : Byte) : (szp f v).z = (v == 0) := rfl
@[simp] theorem szp_a (f : Flags) (v : Byte) : (szp f v).a = f.a := rfl
@[simp] theorem szp_p (f : Flags) (v : Byte) : (szp f v).p = evenParity v := rfl
@[simp] theorem szp_c (f : Flags) (v : Byte) : (szp f v).c = f.c := rfl

/-- AddFlags writes all five flags: none of the old ones is left. -/
theorem addFlags_writes_all (f g : Flags) (x y : Byte) (cin : Bool) : addFlags f x y cin = addFlags g x y cin := rfl

/-- SubFlags writes all five flags. -/
theorem subFlags_writes_all (f g : Flags) (x y : Byte) (bin : Bool) : subFlags f x y bin = subFlags g x y bin := rfl

/-- AndFlags writes all five flags. -/
theorem andFlags_writes_all (f g : Flags) (x y : Byte) : andFlags f x y = andFlags g x y := rfl

/-- OrFlags writes all five flags. -/
theorem orFlags_writes_all (f g : Flags) (r : Byte) : orFlags f r = orFlags g r := rfl

end Sys2Proof.Machine
end

