-- ==== Sys2Proof/Laws/Memory.lean ====
section
/-! SUPPORT. Memory and the port latches: a read after a write, and that every operation keeps the canonical form. -/

namespace Sys2Proof.Machine

/-! ## Cells -/

theorem cellGet_cellSet (m : List Host.Cell) (j k : Nat) (v : Byte) :
    cellGet (cellSet m j v) k = if j = k then some v else cellGet m k := by
  induction m with
  | nil => simp [cellSet, cellGet]
  | cons p rest ih =>
    obtain ⟨i, w⟩ := p
    simp only [cellSet]
    split
    · simp [cellGet]
    · split <;> simp only [cellGet, ih] <;> grind

theorem cellGet_cellErase (m : List Host.Cell) (j k : Nat) :
    cellGet (cellErase m j) k = if j = k then none else cellGet m k := by
  unfold cellErase
  induction m with
  | nil => simp [cellGet]
  | cons p rest ih =>
    obtain ⟨i, w⟩ := p
    by_cases h : i = j <;> simp [h, cellGet] <;> grind

theorem mem_cellSet {m : List Host.Cell} {k : Nat} {v : Byte} {p : Host.Cell} (h : p ∈ cellSet m k v) :
    p = (k, v) ∨ p ∈ m := by
  induction m with
  | nil => simpa [cellSet] using h
  | cons q rest ih =>
    obtain ⟨j, w⟩ := q
    simp only [cellSet] at h
    split at h
    · simpa using h
    · split at h <;> simp only [List.mem_cons] at h ⊢ <;> grind

theorem pairwise_cellSet {m : List Host.Cell} (h : m.Pairwise (fun p q => p.1 < q.1)) (k : Nat) (v : Byte) :
    (cellSet m k v).Pairwise (fun p q => p.1 < q.1) := by
  induction m with
  | nil => simp [cellSet]
  | cons q rest ih =>
    obtain ⟨j, w⟩ := q
    obtain ⟨hq, hr⟩ := List.pairwise_cons.mp h
    simp only [cellSet]
    split
    · rename_i hk
      refine List.pairwise_cons.mpr ⟨fun p hp => ?_, h⟩
      rcases List.mem_cons.mp hp with rfl | hp
      · exact hk
      · exact Nat.lt_trans hk (hq p hp)
    · split
      · rename_i hk
        subst hk
        exact List.pairwise_cons.mpr ⟨hq, hr⟩
      · refine List.pairwise_cons.mpr ⟨fun p hp => ?_, ih hr⟩
        rcases mem_cellSet hp with rfl | hp
        · simp only; omega
        · exact hq p hp

theorem pairwise_cellErase {m : List Host.Cell} (h : m.Pairwise (fun p q => p.1 < q.1)) (k : Nat) :
    (cellErase m k).Pairwise (fun p q => p.1 < q.1) := h.filter _

/-! ## Memory -/

/-- A read after a write: the byte written at its address, the old byte elsewhere; in any memory, canonical or not. -/
@[simp] theorem Memory.read_write (m : Memory) (x y : Word) (v : Byte) :
    (m.write x v).read y = if x = y then v else m.read y := by
  have key : x.toNat = y.toNat ↔ x = y := BitVec.toNat_inj
  unfold Memory.write Memory.read
  split <;> rename_i h <;> simp only [cellGet_cellErase, cellGet_cellSet, key] <;> split <;> simp [h]

/-- Memory.write keeps the canonical form. -/
theorem Memory.write_wf {m : Memory} (h : Memory.wf m) (x : Word) (v : Byte) : Memory.wf (m.write x v) := by
  obtain ⟨hp, hb⟩ := h
  unfold Memory.write
  split
  · exact ⟨pairwise_cellErase hp _, fun p hm => hb p (List.mem_of_mem_filter hm)⟩
  · rename_i hv
    refine ⟨pairwise_cellSet hp _ _, fun p hm => ?_⟩
    rcases mem_cellSet hm with rfl | hm
    · exact ⟨x.isLt, hv⟩
    · exact hb p hm

/-- The back-door load keeps the canonical form. -/
theorem Memory.load_wf {m : Memory} (h : Memory.wf m) (x : Word) (bytes : List Byte) : Memory.wf (Memory.load m x bytes) := by
  induction bytes generalizing m x with
  | nil => exact h
  | cons v rest ih => exact ih (Memory.write_wf h x v) _

/-- Memory at reset is in canonical form. -/
theorem Memory.reset_wf : Memory.wf State.reset.mem := by decide

theorem State.writeByte_wf {s : State} (h : Memory.wf s.mem) (x : Word) (v : Byte) : Memory.wf (s.writeByte x v).mem := by
  rw [State.writeByte_mem]
  split
  · exact h
  · exact Memory.write_wf h x v

theorem State.writeWord_wf {s : State} (h : Memory.wf s.mem) (x v : Word) : Memory.wf (s.writeWord x v).mem :=
  State.writeByte_wf (State.writeByte_wf h _ _) _ _

theorem State.push16_wf {s : State} (h : Memory.wf s.mem) (v : Word) : Memory.wf (s.push16 v).mem := by
  unfold State.push16
  apply State.writeByte_wf
  apply State.writeByte_wf
  exact h

theorem State.setR8_wf {s : State} (h : Memory.wf s.mem) (r : R8) (v : Byte) : Memory.wf (s.setR8 r v).mem := by
  rw [State.setR8_mem]
  split
  · exact State.writeByte_wf h _ _
  · exact h

theorem State.setCounted_wf {s : State} (h : Memory.wf s.mem) (dst : R8) (r : Byte × Flags) :
    Memory.wf (s.setCounted dst r).mem := by
  rw [State.setCounted_mem]
  split
  · exact State.writeByte_wf h _ _
  · exact h

/-- Everything a byte write does to what is read: the byte, at its address, outside the window. -/
theorem State.readByte_writeByte (s : State) (x y : Word) (v : Byte) :
    (s.writeByte x v).readByte y = if x = y ∧ s.inRom x = false then v else s.readByte y := by
  unfold State.readByte
  rw [State.writeByte_mem]
  by_cases h : s.inRom x <;> simp [h]

/-- A push leaves every byte outside its two addresses as it was. -/
theorem State.readByte_push16_of_ne (s : State) (v y : Word) (h0 : y ≠ s.sp - 2) (h1 : y ≠ s.sp - 2 + 1) :
    (s.push16 v).readByte y = s.readByte y := by
  unfold State.push16
  rw [State.readByte_writeByte, if_neg (fun h => h0 h.1.symm), State.readByte_writeByte, if_neg (fun h => h1 h.1.symm)]
  exact State.readByte_congr rfl y

/-- A word write leaves every byte outside its two addresses as it was. -/
theorem State.readByte_writeWord_of_ne (s : State) (x v y : Word) (h0 : y ≠ x) (h1 : y ≠ x + 1) :
    (s.writeWord x v).readByte y = s.readByte y := by
  unfold State.writeWord
  rw [State.readByte_writeByte, if_neg (fun h => h1 h.1.symm), State.readByte_writeByte, if_neg (fun h => h0 h.1.symm)]

/-- Writing an operand leaves every byte but the one at HL as it was, and that one too when the operand is a register. -/
theorem State.readByte_setR8_of_ne (s : State) (r : R8) (v : Byte) (y : Word) (h : r = .m → y ≠ s.hl) :
    (s.setR8 r v).readByte y = s.readByte y := by
  cases r <;> try rfl
  exact (State.readByte_writeByte s s.hl y v).trans (if_neg (fun e => h rfl e.1.symm))

/-! ## Latches -/

@[simp] theorem Latches.get_set (m : Latches) (p q v : Byte) :
    (m.set p v).get q = if p = q then some v else m.get q := by
  have key : p.toNat = q.toNat ↔ p = q := BitVec.toNat_inj
  simp [Latches.set, Latches.get, cellGet_cellSet, key]

@[simp] theorem Latches.get_clear (m : Latches) (p q : Byte) :
    (m.clear p).get q = if p = q then none else m.get q := by
  have key : p.toNat = q.toNat ↔ p = q := BitVec.toNat_inj
  simp [Latches.clear, Latches.get, cellGet_cellErase, key]

theorem Latches.set_wf {m : Latches} (h : Latches.wf m) (p v : Byte) : Latches.wf (m.set p v) := by
  refine ⟨pairwise_cellSet h.1 _ _, fun q hq => ?_⟩
  rcases mem_cellSet hq with rfl | hq
  · exact p.isLt
  · exact h.2 q hq

theorem Latches.clear_wf {m : Latches} (h : Latches.wf m) (p : Byte) : Latches.wf (m.clear p) :=
  ⟨pairwise_cellErase h.1 _, fun q hq => h.2 q (List.mem_of_mem_filter hq)⟩

end Sys2Proof.Machine
end

