-- ==== Sys2Proof/Laws/PerInstr.lean ====
section
/-! SUPPORT. The per-instruction family: an instruction's encoding has as many bytes as its format says (30_encoding.md R71). -/

namespace Sys2Proof.Laws.EncodedLength

/-- The encoder writes as many bytes as the instruction is long. -/
def Statement (i : Instr) : Prop := (encode i).length = i.length

theorem mov (dst src : R8) : Statement (.mov dst src) := rfl
theorem mvi (dst : R8) (imm : Byte) : Statement (.mvi dst imm) := rfl
theorem lxi (rp : RP) (imm : Word) : Statement (.lxi rp imm) := rfl
theorem lda (addr : Word) : Statement (.lda addr) := rfl
theorem sta (addr : Word) : Statement (.sta addr) := rfl
theorem ldax (rp : IndexRP) : Statement (.ldax rp) := rfl
theorem stax (rp : IndexRP) : Statement (.stax rp) := rfl
theorem lhld (addr : Word) : Statement (.lhld addr) := rfl
theorem shld (addr : Word) : Statement (.shld addr) := rfl
theorem xchg : Statement (.xchg) := rfl
theorem xthl : Statement (.xthl) := rfl
theorem sphl : Statement (.sphl) := rfl
theorem pchl : Statement (.pchl) := rfl
theorem add (r : R8) : Statement (.add r) := rfl
theorem adi (imm : Byte) : Statement (.adi imm) := rfl
theorem adc (r : R8) : Statement (.adc r) := rfl
theorem aci (imm : Byte) : Statement (.aci imm) := rfl
theorem sub (r : R8) : Statement (.sub r) := rfl
theorem sui (imm : Byte) : Statement (.sui imm) := rfl
theorem sbb (r : R8) : Statement (.sbb r) := rfl
theorem sbi (imm : Byte) : Statement (.sbi imm) := rfl
theorem ana (r : R8) : Statement (.ana r) := rfl
theorem ani (imm : Byte) : Statement (.ani imm) := rfl
theorem xra (r : R8) : Statement (.xra r) := rfl
theorem xri (imm : Byte) : Statement (.xri imm) := rfl
theorem ora (r : R8) : Statement (.ora r) := rfl
theorem ori (imm : Byte) : Statement (.ori imm) := rfl
theorem cmp (r : R8) : Statement (.cmp r) := rfl
theorem cpi (imm : Byte) : Statement (.cpi imm) := rfl
theorem inr (dst : R8) : Statement (.inr dst) := rfl
theorem dcr (dst : R8) : Statement (.dcr dst) := rfl
theorem dad (rp : RP) : Statement (.dad rp) := rfl
theorem inx (rp : RP) : Statement (.inx rp) := rfl
theorem dcx (rp : RP) : Statement (.dcx rp) := rfl
theorem daa : Statement (.daa) := rfl
theorem rlc : Statement (.rlc) := rfl
theorem rrc : Statement (.rrc) := rfl
theorem ral : Statement (.ral) := rfl
theorem rar : Statement (.rar) := rfl
theorem jmp (addr : Word) : Statement (.jmp addr) := rfl
theorem jnz (addr : Word) : Statement (.jnz addr) := rfl
theorem jz (addr : Word) : Statement (.jz addr) := rfl
theorem jnc (addr : Word) : Statement (.jnc addr) := rfl
theorem jc (addr : Word) : Statement (.jc addr) := rfl
theorem jpo (addr : Word) : Statement (.jpo addr) := rfl
theorem jpe (addr : Word) : Statement (.jpe addr) := rfl
theorem jp (addr : Word) : Statement (.jp addr) := rfl
theorem jm (addr : Word) : Statement (.jm addr) := rfl
theorem call (addr : Word) : Statement (.call addr) := rfl
theorem cnz (addr : Word) : Statement (.cnz addr) := rfl
theorem cz (addr : Word) : Statement (.cz addr) := rfl
theorem cnc (addr : Word) : Statement (.cnc addr) := rfl
theorem cc (addr : Word) : Statement (.cc addr) := rfl
theorem cpo (addr : Word) : Statement (.cpo addr) := rfl
theorem cpe (addr : Word) : Statement (.cpe addr) := rfl
theorem cp (addr : Word) : Statement (.cp addr) := rfl
theorem cm (addr : Word) : Statement (.cm addr) := rfl
theorem ret : Statement (.ret) := rfl
theorem rnz : Statement (.rnz) := rfl
theorem rz : Statement (.rz) := rfl
theorem rnc : Statement (.rnc) := rfl
theorem rc : Statement (.rc) := rfl
theorem rpo : Statement (.rpo) := rfl
theorem rpe : Statement (.rpe) := rfl
theorem rp : Statement (.rp) := rfl
theorem rm : Statement (.rm) := rfl
theorem rst (n : BitVec 3) : Statement (.rst n) := rfl
theorem push (rp : StackRP) : Statement (.push rp) := rfl
theorem pop (rp : StackRP) : Statement (.pop rp) := rfl
theorem inp (port : Byte) : Statement (.inp port) := rfl
theorem outp (port : Byte) : Statement (.outp port) := rfl
theorem nop : Statement (.nop) := rfl
theorem hlt : Statement (.hlt) := rfl
theorem ei : Statement (.ei) := rfl
theorem di : Statement (.di) := rfl
theorem cma : Statement (.cma) := rfl
theorem stc : Statement (.stc) := rfl
theorem cmc : Statement (.cmc) := rfl
theorem nopUndoc (k : BitVec 3) : Statement (.nopUndoc k) := rfl
theorem jmpUndoc (addr : Word) : Statement (.jmpUndoc addr) := rfl
theorem retUndoc : Statement (.retUndoc) := rfl
theorem callUndoc (k : BitVec 2) (addr : Word) : Statement (.callUndoc k addr) := rfl

end Sys2Proof.Laws.EncodedLength
end

