-- ==== Sys2Proof/Laws/Step.lean ====
section
/-! SUPPORT. What a step can do, said once. -/

namespace Sys2Proof.Machine

/-- Every meaning answers a next state: no instruction of the table stops (60_exceptions.md R300; 30_encoding.md R84). -/
theorem exec_next (i : Instr) (s : State) : ∃ t, exec i s = .next t := by
  cases i <;> exact ⟨_, rfl⟩

@[simp] theorem retire_next (t : State) : retire (.next t) = .next { t with ack := false } := rfl

theorem retire_eq_next {r : Result} {u : State} (h : retire r = .next u) :
    ∃ t, r = .next t ∧ u = { t with ack := false } := by
  cases r with
  | next t => exact ⟨t, rfl, by simpa using h.symm⟩
  | fault e => cases e
  | refused e => cases h

/-- The step's three ways to a next state (R101): acknowledge, idle, fetch. -/
theorem step_cases {s u : State} (h : step s = .next u) :
    (s.acknowledges = true ∧ opLength s.intOpcode ≤ 1 ∧
        ∃ t, exec (slotInstr s) s.acknowledge = .next t ∧ u = { t with ack := false }) ∨
    (s.acknowledges = false ∧ s.halted = true ∧ u = s) ∨
    (s.acknowledges = false ∧ s.halted = false ∧
        ∃ t, exec (fetchInstr s) s.beginFetched = .next t ∧ u = { t with ack := false }) := by
  unfold step stepFsm at h
  split at h
  · rename_i ha
    unfold runSlot at h
    split at h
    · cases h
    · rename_i hl
      rw [State.beginAcknowledged_eq] at h
      exact .inl ⟨ha, by omega, retire_eq_next h⟩
  · rename_i ha
    have ha : s.acknowledges = false := by simpa using ha
    split at h
    · rename_i hh
      cases h
      exact .inr (.inl ⟨ha, hh, rfl⟩)
    · rename_i hh
      exact .inr (.inr ⟨ha, by simpa using hh, retire_eq_next h⟩)

/-- A step that neither acknowledges nor idles runs the fetched instruction. -/
theorem step_of_fetch {s : State} (ha : s.acknowledges = false) (hh : s.halted = false) : step s = runFetched s := by
  simp [step, stepFsm, ha, hh]

/-- A step that acknowledges runs the slot. -/
theorem step_of_acknowledge {s : State} (ha : s.acknowledges = true) : step s = runSlot s := by
  simp [step, stepFsm, ha]

/-- The count of an instruction depends on the flags alone (70_reset_and_hazards.md R354). -/
theorem cycles_congr {s t : State} (h : t.flags = s.flags) (i : Instr) : cycles i t = cycles i s := by
  cases i <;> simp only [cycles, cyclesCond, h]

/-- What a step that fetches reports. -/
theorem stepCycles_of_fetch {s : State} (ha : s.acknowledges = false) (hh : s.halted = false) :
    stepCycles s = some (BitVec.ofNat 32 (cycles (fetchInstr s) s.beginFetched)) := by
  simp [stepCycles, ha, hh]

/-- What a step that acknowledges a one-byte opcode reports. -/
theorem stepCycles_of_acknowledge {s : State} (ha : s.acknowledges = true) (hl : opLength s.intOpcode ≤ 1) :
    stepCycles s = some (BitVec.ofNat 32 (cycles (slotInstr s) s.acknowledge)) := by
  simp [stepCycles, ha, Nat.not_lt.mpr hl]

/-- The first of `k + 1` steps of any machine, then the other `k`. -/
theorem run_succ {M : Host.Core} {s t : M.State} (h : M.step s = .next t) (k : Nat) : M.run (k + 1) s = M.run k t := by
  rw [Host.Core.run, h]

/-- The same of this machine. -/
theorem core_run_succ {s t : State} (h : step s = .next t) (k : Nat) :
    Sys2Proof.core.run (k + 1) s = Sys2Proof.core.run k t := run_succ h k

end Sys2Proof.Machine
end

