-- ==== Sys2Proof/Tests/Slice0.lean ====
section
/-! SUPPORT. Tests of this model. Every expected value is from spec/95_test_vectors.md (the part is named), or from the rule named;
the `witness_` theorems show that the hypotheses of each statement can be met together. -/

namespace Sys2Proof.Tests

open Sys2Proof Sys2Proof.Machine

/-! ## Small states -/

/-- The reset state with `bytes` at 0x0100 and PC there (95_test_vectors.md part 2). -/
def prog (bytes : List Byte) : State := { hostLoad State.reset 0x0100 bytes with pc := 0x0100 }

/-- `s` with `bytes` at `x` as well. -/
def State.poke (s : State) (x : Word) (bytes : List Byte) : State := hostLoad s x bytes

/-- One step, and what to look at after it. -/
def look {α : Type} (s : State) (f : State → α) : Option α := (after (step s)).map f

/-- A and the flags after one step of `bytes`, from A, B and C as given. -/
def alu (bytes : List Byte) (a b : Byte) (c : Bool) : Option (Byte × Flags) :=
  look { prog bytes with a := a, b := b, flags := ⟨false, false, false, false, c⟩ } (fun t => (t.a, t.flags))

/-- B and the flags after one step of `bytes`, from B as given and C set. -/
def count (bytes : List Byte) (b : Byte) : Option (Byte × Flags) :=
  look { prog bytes with b := b, flags := ⟨false, false, false, false, true⟩ } (fun t => (t.b, t.flags))

/-- HL and the flags after one step of `bytes`, from HL and BC as given and Z set. -/
def pair (bytes : List Byte) (h l b c : Byte) : Option (Byte × Byte × Flags) :=
  look { prog bytes with h := h, l := l, b := b, c := c, flags := ⟨false, true, false, false, false⟩ }
    (fun t => (t.h, t.l, t.flags))

/-- A window. -/
def win (lo hi : Word) : Option RomWindow := some { lo := lo, hi := hi }

/-! ## WellFormed refuses -/

theorem test_wellFormed_mov_m_m : (Instr.mov .m .m).wellFormed = false := by decide

theorem test_wellFormed_nopUndoc_zero : (Instr.nopUndoc 0).wellFormed = false := by decide

theorem test_wellFormed_callUndoc_zero : (Instr.callUndoc 0 0x1234).wellFormed = false := by decide

/-! ## Decoding words written out from 30_encoding.md R77 to R80 -/

theorem test_decode_dataMovement :
    decodeTableWord 8 0b01_000_110 = some (.mov .b .m) ∧ decodeTableWord 8 0b01_110_111 = some (.mov .m .a) ∧
    decodeTableWord 16 0x07_36 = some (.mvi .m 0x07) ∧ decodeTableWord 24 0xFF00_31 = some (.lxi .sp 0xFF00) ∧
    decodeTableWord 24 0x3000_3A = some (.lda 0x3000) ∧ decodeTableWord 24 0x0010_32 = some (.sta 0x0010) ∧
    decodeTableWord 8 0x0A = some (.ldax .bc) ∧ decodeTableWord 8 0x1A = some (.ldax .de) ∧
    decodeTableWord 8 0x02 = some (.stax .bc) ∧ decodeTableWord 8 0x12 = some (.stax .de) ∧
    decodeTableWord 24 0x0020_2A = some (.lhld 0x0020) ∧ decodeTableWord 24 0x0022_22 = some (.shld 0x0022) ∧
    decodeTableWord 8 0xEB = some .xchg ∧ decodeTableWord 8 0xE3 = some .xthl ∧ decodeTableWord 8 0xF9 = some .sphl ∧
    decodeTableWord 8 0xE9 = some .pchl := by decide

theorem test_decode_arithmetic :
    decodeTableWord 8 0x80 = some (.add .b) ∧ decodeTableWord 16 0x42_C6 = some (.adi 0x42) ∧
    decodeTableWord 8 0x89 = some (.adc .c) ∧ decodeTableWord 16 0xBE_CE = some (.aci 0xBE) ∧
    decodeTableWord 8 0x92 = some (.sub .d) ∧ decodeTableWord 16 0x01_D6 = some (.sui 0x01) ∧
    decodeTableWord 8 0x9B = some (.sbb .e) ∧ decodeTableWord 16 0x01_DE = some (.sbi 0x01) ∧
    decodeTableWord 8 0x34 = some (.inr .m) ∧ decodeTableWord 8 0x3D = some (.dcr .a) ∧
    decodeTableWord 8 0x09 = some (.dad .bc) ∧ decodeTableWord 8 0x29 = some (.dad .hl) ∧
    decodeTableWord 8 0x23 = some (.inx .hl) ∧ decodeTableWord 8 0x13 = some (.inx .de) ∧
    decodeTableWord 8 0x3B = some (.dcx .sp) ∧ decodeTableWord 8 0x27 = some .daa := by decide

theorem test_decode_logic :
    decodeTableWord 8 0xA4 = some (.ana .h) ∧ decodeTableWord 16 0x0F_E6 = some (.ani 0x0F) ∧
    decodeTableWord 8 0xAF = some (.xra .a) ∧ decodeTableWord 16 0x81_EE = some (.xri 0x81) ∧
    decodeTableWord 8 0xB5 = some (.ora .l) ∧ decodeTableWord 16 0x0F_F6 = some (.ori 0x0F) ∧
    decodeTableWord 8 0xBE = some (.cmp .m) ∧ decodeTableWord 16 0x40_FE = some (.cpi 0x40) ∧
    decodeTableWord 8 0x07 = some .rlc ∧ decodeTableWord 8 0x0F = some .rrc ∧ decodeTableWord 8 0x17 = some .ral ∧
    decodeTableWord 8 0x1F = some .rar := by decide

theorem test_decode_jumps :
    decodeTableWord 24 0x3E00_C3 = some (.jmp 0x3E00) ∧ decodeTableWord 24 0x0102_C2 = some (.jnz 0x0102) ∧
    decodeTableWord 24 0x1234_CA = some (.jz 0x1234) ∧ decodeTableWord 24 0x1234_D2 = some (.jnc 0x1234) ∧
    decodeTableWord 24 0x1234_DA = some (.jc 0x1234) ∧ decodeTableWord 24 0x1234_E2 = some (.jpo 0x1234) ∧
    decodeTableWord 24 0x1234_EA = some (.jpe 0x1234) ∧ decodeTableWord 24 0x1234_F2 = some (.jp 0x1234) ∧
    decodeTableWord 24 0x1234_FA = some (.jm 0x1234) ∧ decodeTableWord 24 0x3E00_CB = some (.jmpUndoc 0x3E00) := by decide

theorem test_decode_calls :
    decodeTableWord 24 0x2000_CD = some (.call 0x2000) ∧ decodeTableWord 24 0x2000_C4 = some (.cnz 0x2000) ∧
    decodeTableWord 24 0x2000_CC = some (.cz 0x2000) ∧ decodeTableWord 24 0x2000_D4 = some (.cnc 0x2000) ∧
    decodeTableWord 24 0x2000_DC = some (.cc 0x2000) ∧ decodeTableWord 24 0x2000_E4 = some (.cpo 0x2000) ∧
    decodeTableWord 24 0x2000_EC = some (.cpe 0x2000) ∧ decodeTableWord 24 0x2000_F4 = some (.cp 0x2000) ∧
    decodeTableWord 24 0x2000_FC = some (.cm 0x2000) ∧ decodeTableWord 24 0x2000_DD = some (.callUndoc 1 0x2000) ∧
    decodeTableWord 24 0x2000_FD = some (.callUndoc 3 0x2000) := by decide

theorem test_decode_returns :
    decodeTableWord 8 0xC9 = some .ret ∧ decodeTableWord 8 0xC0 = some .rnz ∧ decodeTableWord 8 0xC8 = some .rz ∧
    decodeTableWord 8 0xD0 = some .rnc ∧ decodeTableWord 8 0xD8 = some .rc ∧ decodeTableWord 8 0xE0 = some .rpo ∧
    decodeTableWord 8 0xE8 = some .rpe ∧ decodeTableWord 8 0xF0 = some .rp ∧ decodeTableWord 8 0xF8 = some .rm ∧
    decodeTableWord 8 0xFF = some (.rst 7) ∧ decodeTableWord 8 0xCF = some (.rst 1) ∧
    decodeTableWord 8 0xD9 = some .retUndoc := by decide

theorem test_decode_stackAndPorts :
    decodeTableWord 8 0xC5 = some (.push .bc) ∧ decodeTableWord 8 0xF5 = some (.push .psw) ∧
    decodeTableWord 8 0xE1 = some (.pop .hl) ∧ decodeTableWord 8 0xF1 = some (.pop .psw) ∧
    decodeTableWord 16 0x05_DB = some (.inp 0x05) ∧ decodeTableWord 16 0xFF_D3 = some (.outp 0xFF) := by decide

theorem test_decode_misc :
    decodeTableWord 8 0x00 = some .nop ∧ decodeTableWord 8 0b01_110_110 = some .hlt ∧ decodeTableWord 8 0xFB = some .ei ∧
    decodeTableWord 8 0xF3 = some .di ∧ decodeTableWord 8 0x2F = some .cma ∧ decodeTableWord 8 0x37 = some .stc ∧
    decodeTableWord 8 0x3F = some .cmc ∧ decodeTableWord 8 0x08 = some (.nopUndoc 1) := by decide

/-- R70: a missing operand byte is refused by name, and bytes after the instruction are left. -/
theorem test_decode_bytes :
    decode [] = .error .noOpcode ∧ decode [0xC3, 0x00] = .error (.missingOperands 0xC3) ∧
    decode [0x3E, 0x0F, 0x3D] = .ok (.mvi .a 0x0F, [0x3D]) := by decide

/-- The host's placing of a word: the very next step runs it, from reset. -/
theorem test_withFetchWord :
    look (State.reset.withFetchWord 16 0x55_3E) (fun t => (t.a, t.pc)) = some (0x55, 2) ∧
    look (State.withFetchWord { State.reset with halted := true, inte := true, intPending := true } 8 0x37)
      (fun t => (t.flags.c, t.pc)) = some (true, 1) := by decide

/-! ## Data movement (part 2.1) -/

theorem test_mov_b_m :
    look (State.poke { prog [0x46] with h := 0x20, l := 0x10 } 0x2010 [0x5A]) (fun t => (t.b, t.pc)) = some (0x5A, 0x0101) := by
  decide

theorem test_mov_m_a :
    look { prog [0x77] with a := 0x99, h := 0x20, l := 0x10 } (fun t => t.readByte 0x2010) = some 0x99 ∧
    look { prog [0x77] with a := 0x99, h := 0x20, l := 0x10, rom := win 0x2000 0x20FF } (fun t => t.readByte 0x2010) =
      some 0x00 := by decide

/-- R120: the source is read first, so MOV H,M reads at the old HL. -/
theorem test_mov_h_m :
    look (State.poke { prog [0x66] with h := 0x20, l := 0x10 } 0x2010 [0x5A]) (fun t => (t.h, t.l)) = some (0x5A, 0x10) := by
  decide

theorem test_mvi_m : look { prog [0x36, 0x07] with h := 0x30 } (fun t => (t.readByte 0x3000, t.pc)) = some (0x07, 0x0102) := by
  decide

theorem test_lxi :
    look (prog [0x31, 0x00, 0xFF]) (fun t => (t.sp, t.pc)) = some (0xFF00, 0x0103) ∧
    look (prog [0x21, 0x34, 0x12]) (fun t => (t.h, t.l)) = some (0x12, 0x34) := by decide

theorem test_lda : look (State.poke (prog [0x3A, 0x00, 0x30]) 0x3000 [0x77]) (fun t => t.a) = some 0x77 := by decide

/-- Scenario 6 (part 1.7): the discarded store raises no error. -/
theorem test_sta :
    look { prog [0x32, 0x10, 0x00] with a := 0xAA, rom := win 0x0000 0x00FF } (fun t => (t.readByte 0x0010, t.pc)) =
      some (0x00, 0x0103) ∧
    look { prog [0x32, 0x10, 0x00] with a := 0xAA } (fun t => t.readByte 0x0010) = some 0xAA := by decide

theorem test_ldax : look (State.poke { prog [0x0A] with b := 0x30, c := 0x01 } 0x3001 [0x11]) (fun t => t.a) = some 0x11 := by
  decide

theorem test_stax : look { prog [0x12] with a := 0x22, d := 0x30, e := 0x02 } (fun t => t.readByte 0x3002) = some 0x22 := by
  decide

/-- The second address wraps to 0. -/
theorem test_lhld :
    look (State.poke (prog [0x2A, 0xFF, 0xFF]) 0xFFFF [0xCD, 0xAB]) (fun t => (t.l, t.h)) = some (0xCD, 0xAB) := by decide

theorem test_shld :
    look { prog [0x22, 0xFF, 0xFF] with h := 0xAB, l := 0xCD } (fun t => (t.readByte 0xFFFF, t.readByte 0x0000)) =
      some (0xCD, 0xAB) := by decide

theorem test_xchg :
    look { prog [0xEB] with d := 0x33, e := 0x55, h := 0x00, l := 0xFF } (fun t => (t.d, t.e, t.h, t.l)) =
      some (0x00, 0xFF, 0x33, 0x55) := by decide

theorem test_xthl :
    look (State.poke { prog [0xE3] with sp := 0x10AD, h := 0x0B, l := 0x3C } 0x10AD [0xF0, 0x0D])
      (fun t => (t.h, t.l, t.readByte 0x10AD, t.readByte 0x10AE, t.sp)) = some (0x0D, 0xF0, 0x3C, 0x0B, 0x10AD) := by decide

theorem test_sphl : look { prog [0xF9] with h := 0x50, l := 0x6C } (fun t => (t.sp, t.pc)) = some (0x506C, 0x0101) := by decide

theorem test_pchl : look { prog [0xE9] with h := 0x41, l := 0x3E } (fun t => t.pc) = some 0x413E := by decide

/-! ## Arithmetic and logic (part 2.2); flags are S Z A P C -/

theorem test_add :
    alu [0x80] 0x2E 0x74 false = some (0xA2, ⟨true, false, true, false, false⟩) ∧
    alu [0x80] 0xFF 0x01 true = some (0x00, ⟨false, true, true, true, true⟩) ∧
    alu [0x87] 0x80 0x00 false = some (0x00, ⟨false, true, false, true, true⟩) := by decide

theorem test_adi : alu [0xC6, 0x42] 0x14 0 true = some (0x56, ⟨false, false, false, true, false⟩) := by decide

theorem test_adc :
    alu [0x88] 0x3D 0x42 true = some (0x80, ⟨true, false, true, false, false⟩) ∧
    alu [0x88] 0xFF 0x00 true = some (0x00, ⟨false, true, true, true, true⟩) := by decide

theorem test_aci : alu [0xCE, 0xBE] 0x56 0 false = some (0x14, ⟨false, false, true, true, true⟩) := by decide

theorem test_sub : alu [0x90] 0x3E 0x3E true = some (0x00, ⟨false, true, true, true, false⟩) := by decide

theorem test_sui : alu [0xD6, 0x01] 0x00 0 false = some (0xFF, ⟨true, false, false, true, true⟩) := by decide

theorem test_sbb :
    alu [0x98] 0x04 0x02 true = some (0x01, ⟨false, false, true, false, false⟩) ∧
    alu [0x98] 0x00 0xFF true = some (0x00, ⟨false, true, false, true, true⟩) := by decide

theorem test_sbi : alu [0xDE, 0x01] 0x00 0 true = some (0xFE, ⟨true, false, false, false, true⟩) := by decide

theorem test_ana :
    alu [0xA0] 0xFC 0x0F true = some (0x0C, ⟨false, false, true, true, false⟩) ∧
    alu [0xA0] 0xF0 0x07 true = some (0x00, ⟨false, true, false, true, false⟩) := by decide

theorem test_ani : alu [0xE6, 0x0F] 0x3A 0 true = some (0x0A, ⟨false, false, true, true, false⟩) := by decide

theorem test_xra :
    alu [0xA8] 0x5C 0x78 true = some (0x24, ⟨false, false, false, true, false⟩) ∧
    alu [0xAF] 0x99 0 true = some (0x00, ⟨false, true, false, true, false⟩) := by decide

theorem test_xri : alu [0xEE, 0x81] 0x3B 0 true = some (0xBA, ⟨true, false, false, false, false⟩) := by decide

theorem test_ora : alu [0xB0] 0x33 0x0F true = some (0x3F, ⟨false, false, false, true, false⟩) := by decide

theorem test_ori : alu [0xF6, 0x0F] 0xB5 0 true = some (0xBF, ⟨true, false, false, false, false⟩) := by decide

theorem test_cmp :
    alu [0xB8] 0x0A 0x05 true = some (0x0A, ⟨false, false, true, true, false⟩) ∧
    alu [0xB8] 0x02 0x05 false = some (0x02, ⟨true, false, false, false, true⟩) ∧
    alu [0xB8] 0x1B 0xFB false = some (0x1B, ⟨false, false, true, false, true⟩) := by decide

theorem test_cpi :
    alu [0xFE, 0x40] 0x4A 0 true = some (0x4A, ⟨false, false, true, true, false⟩) ∧
    alu [0xFE, 0x4A] 0x40 0 false = some (0x40, ⟨true, false, false, true, true⟩) := by decide

theorem test_inr :
    count [0x04] 0x0F = some (0x10, ⟨false, false, true, false, true⟩) ∧
    count [0x04] 0x7F = some (0x80, ⟨true, false, true, false, true⟩) ∧
    count [0x04] 0xFF = some (0x00, ⟨false, true, true, true, true⟩) ∧
    count [0x04] 0x99 = some (0x9A, ⟨true, false, false, true, true⟩) := by decide

theorem test_dcr :
    count [0x05] 0x00 = some (0xFF, ⟨true, false, false, true, true⟩) ∧
    count [0x05] 0x01 = some (0x00, ⟨false, true, true, true, true⟩) ∧
    count [0x05] 0x10 = some (0x0F, ⟨false, false, false, true, true⟩) ∧
    count [0x05] 0x80 = some (0x7F, ⟨false, false, false, false, true⟩) := by decide

theorem test_dad :
    pair [0x09] 0xA1 0x7B 0x33 0x9F = some (0xD5, 0x1A, ⟨false, true, false, false, false⟩) ∧
    pair [0x09] 0xFF 0xFF 0x00 0x01 = some (0x00, 0x00, ⟨false, true, false, false, true⟩) ∧
    pair [0x29] 0x80 0x00 0x00 0x00 = some (0x00, 0x00, ⟨false, true, false, false, true⟩) := by decide

theorem test_inx :
    pair [0x23] 0x12 0xFF 0 0 = some (0x13, 0x00, ⟨false, true, false, false, false⟩) ∧
    pair [0x23] 0xFF 0xFF 0 0 = some (0x00, 0x00, ⟨false, true, false, false, false⟩) := by decide

theorem test_dcx :
    pair [0x2B] 0x98 0x00 0 0 = some (0x97, 0xFF, ⟨false, true, false, false, false⟩) ∧
    pair [0x2B] 0x00 0x00 0 0 = some (0xFF, 0xFF, ⟨false, true, false, false, false⟩) := by decide

/-- Program P2, steps 3 and 7, R170's row 40 (all five flags 0, log entry 24), and the rows A=FA and A=FF with C=0
that tell two readings of DAA apart (90_conflicts.md C6). -/
theorem test_daa :
    alu [0x27] 0xBB 0 false = some (0x21, ⟨false, false, true, true, true⟩) ∧
    look { prog [0x27] with a := 0x73, flags := ⟨false, false, true, false, false⟩ } (fun t => (t.a, t.flags)) =
      some (0x79, ⟨false, false, false, false, false⟩) ∧
    alu [0x27] 0x40 0 false = some (0x40, ⟨false, false, false, false, false⟩) ∧
    (alu [0x27] 0xFA 0 false).map (fun r => (r.1, r.2.c)) = some (0x60, true) ∧
    (alu [0x27] 0xFF 0 false).map (fun r => (r.1, r.2.c)) = some (0x65, true) := by decide

/-! ## Rotates (part 2.3) -/

theorem test_rlc :
    alu [0x07] 0xB5 0 true = some (0x6B, ⟨false, false, false, false, true⟩) ∧
    alu [0x07] 0x00 0 true = some (0x00, ⟨false, false, false, false, false⟩) := by decide

theorem test_rrc :
    alu [0x0F] 0xB5 0 true = some (0xDA, ⟨false, false, false, false, true⟩) ∧
    alu [0x0F] 0x00 0 true = some (0x00, ⟨false, false, false, false, false⟩) := by decide

theorem test_ral :
    alu [0x17] 0xB5 0 true = some (0x6B, ⟨false, false, false, false, true⟩) ∧
    alu [0x17] 0x00 0 true = some (0x01, ⟨false, false, false, false, false⟩) := by decide

theorem test_rar :
    alu [0x1F] 0xB5 0 true = some (0xDA, ⟨false, false, false, false, true⟩) ∧
    alu [0x1F] 0x00 0 true = some (0x80, ⟨false, false, false, false, false⟩) := by decide

/-! ## Control flow (part 2.4) -/

/-- PC and SP after one step with all five flags as given. -/
def flow (bytes : List Byte) (f : Flags) : Option (Word × Word) :=
  look (State.poke { prog bytes with sp := 0x23FE, flags := f } 0x23FE [0x03, 0x01]) (fun t => (t.pc, t.sp))

/-- All flags set, or none. -/
def all1 : Flags := ⟨true, true, true, true, true⟩

/-- No flag set. -/
def all0 : Flags := ⟨false, false, false, false, false⟩

/-- Only the flag the condition reads decides: Z alone, C alone, P alone, S alone. -/
theorem test_conditional_jumps :
    flow [0xC2, 0x34, 0x12] ⟨true, false, true, true, true⟩ = some (0x1234, 0x23FE) ∧
    flow [0xCA, 0x34, 0x12] ⟨false, true, false, false, false⟩ = some (0x1234, 0x23FE) ∧
    flow [0xD2, 0x34, 0x12] ⟨true, true, true, true, false⟩ = some (0x1234, 0x23FE) ∧
    flow [0xDA, 0x34, 0x12] ⟨false, false, false, false, true⟩ = some (0x1234, 0x23FE) ∧
    flow [0xE2, 0x34, 0x12] ⟨true, true, true, false, true⟩ = some (0x1234, 0x23FE) ∧
    flow [0xEA, 0x34, 0x12] ⟨false, false, false, true, false⟩ = some (0x1234, 0x23FE) ∧
    flow [0xF2, 0x34, 0x12] ⟨false, true, true, true, true⟩ = some (0x1234, 0x23FE) ∧
    flow [0xFA, 0x34, 0x12] ⟨true, false, false, false, false⟩ = some (0x1234, 0x23FE) := by decide

theorem test_conditional_jumps_not_taken :
    flow [0xC2, 0x34, 0x12] all1 = some (0x0103, 0x23FE) ∧ flow [0xCA, 0x34, 0x12] all0 = some (0x0103, 0x23FE) ∧
    flow [0xD2, 0x34, 0x12] all1 = some (0x0103, 0x23FE) ∧ flow [0xDA, 0x34, 0x12] all0 = some (0x0103, 0x23FE) ∧
    flow [0xE2, 0x34, 0x12] all1 = some (0x0103, 0x23FE) ∧ flow [0xEA, 0x34, 0x12] all0 = some (0x0103, 0x23FE) ∧
    flow [0xF2, 0x34, 0x12] all1 = some (0x0103, 0x23FE) ∧ flow [0xFA, 0x34, 0x12] all0 = some (0x0103, 0x23FE) := by decide

theorem test_conditional_calls :
    flow [0xC4, 0x00, 0x20] all0 = some (0x2000, 0x23FC) ∧ flow [0xCC, 0x00, 0x20] all1 = some (0x2000, 0x23FC) ∧
    flow [0xD4, 0x00, 0x20] all0 = some (0x2000, 0x23FC) ∧ flow [0xDC, 0x00, 0x20] all1 = some (0x2000, 0x23FC) ∧
    flow [0xE4, 0x00, 0x20] all0 = some (0x2000, 0x23FC) ∧ flow [0xEC, 0x00, 0x20] all1 = some (0x2000, 0x23FC) ∧
    flow [0xF4, 0x00, 0x20] all0 = some (0x2000, 0x23FC) ∧ flow [0xFC, 0x00, 0x20] all1 = some (0x2000, 0x23FC) ∧
    flow [0xD4, 0x00, 0x20] all1 = some (0x0103, 0x23FE) := by decide

theorem test_conditional_returns :
    flow [0xC0] all0 = some (0x0103, 0x2400) ∧ flow [0xC8] all1 = some (0x0103, 0x2400) ∧
    flow [0xD0] all0 = some (0x0103, 0x2400) ∧ flow [0xD8] all1 = some (0x0103, 0x2400) ∧
    flow [0xE0] all0 = some (0x0103, 0x2400) ∧ flow [0xE8] all1 = some (0x0103, 0x2400) ∧
    flow [0xF0] all0 = some (0x0103, 0x2400) ∧ flow [0xF8] all1 = some (0x0103, 0x2400) ∧
    flow [0xD8] all0 = some (0x0101, 0x23FE) := by decide

theorem test_jmp : flow [0xC3, 0x00, 0x3E] all0 = some (0x3E00, 0x23FE) := by decide

theorem test_call :
    look { prog [0xCD, 0x00, 0x20] with sp := 0x2400 } (fun t => (t.sp, t.readByte 0x23FE, t.readByte 0x23FF, t.pc)) =
      some (0x23FE, 0x03, 0x01, 0x2000) ∧
    look (prog [0xCD, 0x00, 0x20]) (fun t => (t.sp, t.readByte 0xFFFE, t.readByte 0xFFFF, t.pc)) =
      some (0xFFFE, 0x03, 0x01, 0x2000) := by decide

theorem test_ret : flow [0xC9] all0 = some (0x0103, 0x2400) := by decide

theorem test_rst :
    look { prog [0xFF] with sp := 0x0001 } (fun t => (t.sp, t.readByte 0xFFFF, t.readByte 0x0000, t.pc)) =
      some (0xFFFF, 0x01, 0x01, 0x0038) := by decide

theorem test_undocumented :
    flow [0xCB, 0x00, 0x3E] all0 = some (0x3E00, 0x23FE) ∧ flow [0xD9] all0 = some (0x0103, 0x2400) ∧
    flow [0xDD, 0x00, 0x20] all0 = some (0x2000, 0x23FC) ∧ flow [0x08] all0 = some (0x0101, 0x23FE) := by decide

/-- Part 2.4: the fetch wraps at the top of memory. -/
theorem test_fetch_wraps :
    look { hostLoad State.reset 0xFFFF [0xC3, 0x34, 0x12] with pc := 0xFFFF } (fun t => t.pc) = some 0x1234 ∧
    look { State.reset with pc := 0xFFFF } (fun t => t.pc) = some 0x0000 ∧
    look { hostLoad State.reset 0xFFFF [0x3E, 0x77] with pc := 0xFFFF } (fun t => (t.a, t.pc)) = some (0x77, 0x0001) := by
  decide

/-! ## Stack and ports (parts 2.5, 2.6) -/

theorem test_push :
    look { prog [0xC5] with b := 0x8F, c := 0x9D, sp := 0x3A2C } (fun t => (t.sp, t.readByte 0x3A2A, t.readByte 0x3A2B)) =
      some (0x3A2A, 0x9D, 0x8F) ∧
    look { prog [0xF5] with a := 0x1F, flags := ⟨false, true, false, true, true⟩, sp := 0x502A }
      (fun t => (t.sp, t.readByte 0x5028, t.readByte 0x5029)) = some (0x5028, 0x47, 0x1F) := by decide

theorem test_push_psw_fixed_bits :
    look { prog [0xF5] with a := 0xFF, flags := all1, sp := 0x502A } (fun t => t.readByte 0x5028) = some 0xD7 ∧
    look { prog [0xF5] with sp := 0x502A } (fun t => t.readByte 0x5028) = some 0x02 := by decide

theorem test_pop :
    look (State.poke { prog [0xE1] with sp := 0x1239 } 0x1239 [0x3D, 0x93]) (fun t => (t.l, t.h, t.sp)) =
      some (0x3D, 0x93, 0x123B) ∧
    look (State.poke { prog [0xF1] with sp := 0x2C00 } 0x2C00 [0xC3, 0xFF]) (fun t => (t.a, t.flags, t.sp)) =
      some (0xFF, ⟨true, true, false, false, true⟩, 0x2C02) := by decide

theorem test_pop_psw_ignored_bits :
    look (State.poke { prog [0xF1] with sp := 0x2C00 } 0x2C00 [0xFF, 0x12]) (fun t => (t.a, t.flags)) = some (0x12, all1) ∧
    look (State.poke { prog [0xF1] with sp := 0x2C00 } 0x2C00 [0x28, 0x12]) (fun t => (t.a, t.flags)) = some (0x12, all0) := by
  decide

theorem test_in :
    look (hostSetIoIn { prog [0xDB, 0x05] with a := 0x11 } 0x05 0x7E) (fun t => (t.a, t.ioIn.get 0x05)) =
      some (0x7E, some 0x7E) ∧
    look { prog [0xDB, 0x05] with a := 0x11 } (fun t => t.a) = some 0x11 := by decide

theorem test_out :
    look { prog [0xD3, 0xFF] with a := 0xA5 } (fun t => (t.ioOut.get 0xFF, t.ioOut.get 0x00)) = some (some 0xA5, none) ∧
    look (hostSetIoOut { prog [0xD3, 0x01] with a := 0x66 } 0x01 0x55) (fun t => t.ioOut.get 0x01) = some (some 0x66) := by
  decide

/-! ## Miscellaneous (part 2.7) -/

theorem test_nop : look (prog [0x00]) (fun t => t.pc) = some 0x0101 := by decide

theorem test_hlt : look (prog [0x76]) (fun t => (t.halted, t.pc)) = some (true, 0x0100) := by decide

theorem test_ei : look (prog [0xFB]) (fun t => (t.eiPending, t.inte)) = some (true, false) := by decide

theorem test_di :
    look { prog [0xF3] with inte := true, eiPending := true } (fun t => (t.inte, t.eiPending)) = some (false, false) := by
  decide

theorem test_cma :
    look { prog [0x2F] with a := 0x51, flags := all1 } (fun t => (t.a, t.flags)) = some (0xAE, all1) := by decide

theorem test_stc_cmc :
    (alu [0x37] 0 0 false).map (fun r => r.2.c) = some true ∧ (alu [0x3F] 0 0 true).map (fun r => r.2.c) = some false := by
  decide

/-! ## Interrupts (parts 1.6, 2.8) -/

/-- Scenario 5: the acknowledge step runs RST 1 from the slot and fetches nothing. -/
theorem test_interrupt_service :
    look { hostLoad State.reset 0 [0xC3, 0x00, 0x00] with inte := true, intPending := true, intOpcode := 0xCF }
      (fun t => (t.sp, t.pc, t.inte, t.intPending, t.intOpcode)) = some (0xFFFE, 0x0008, false, false, 0xCF) := by decide

/-- T1, step 2: the promotion comes before EXECUTE, and the request waits. -/
theorem test_ei_promotion :
    look { State.reset with pc := 1, eiPending := true, intPending := true, intOpcode := 0xD7 }
      (fun t => (t.inte, t.eiPending, t.intPending, t.pc)) = some (true, false, true, 2) := by decide

/-- T2, step 2: with INTE already 1 the acknowledge is at once and cancels `ei_pending`. -/
theorem test_acknowledge_cancels_ei :
    look { State.reset with pc := 1, sp := 0x0100, inte := true, eiPending := true, intPending := true, intOpcode := 0xC7 }
      (fun t => (t.inte, t.eiPending, t.pc, t.readByte 0x00FE, t.sp)) = some (false, false, 0, 0x01, 0x00FE) := by decide

/-- T3, step 2: DI in the step of the promotion. -/
theorem test_ei_then_di :
    look { prog [0xF3] with eiPending := true } (fun t => (t.inte, t.eiPending)) = some (false, false) := by decide

/-- T4, step 2: a NOP from the slot wakes the core and leaves PC. -/
theorem test_wake_by_nop :
    look { State.reset with halted := true, inte := true, intPending := true } (fun t => (t.halted, t.inte, t.pc)) =
      some (false, false, 0) := by decide

/-- R309: a slot opcode that needs operand bytes is refused by name. -/
theorem test_slot_refused :
    look { State.reset with inte := true, intPending := true, intOpcode := 0xC3 } (fun t => t.pc) = none ∧
    step { State.reset with inte := true, intPending := true, intOpcode := 0xC3 } = .refused (.slotOperandsUnknown 0xC3) := by
  exact ⟨by decide, rfl⟩

/-- R302 to R304: a second request replaces the first, and withdrawing leaves only `pending` changed. -/
theorem test_host_interrupt :
    (hostRequestInterrupt (hostRequestInterrupt State.reset 0xCF) 0xD7).intOpcode = 0xD7 ∧
    (hostRequestInterrupt State.reset 0xCF).intPending = true ∧
    hostWithdrawInterrupt (hostRequestInterrupt State.reset 0xCF) = { State.reset with intOpcode := 0xCF } := by decide

/-- R51, R45: a host word write across the window's lower edge keeps the byte outside it. -/
theorem test_host_write_word :
    (hostWriteWord { State.reset with rom := win 0x0010 0x0020 } 0x000F 0x1234).readByte 0x000F = 0x34 ∧
    (hostWriteWord { State.reset with rom := win 0x0010 0x0020 } 0x000F 0x1234).readByte 0x0010 = 0x00 := by decide

/-- R55: the two latch arrays are apart, and each cell is set and cleared on its own. -/
theorem test_host_latches :
    hostGetIoIn (hostSetIoIn State.reset 0x05 0x7E) 0x05 = some 0x7E ∧
    hostGetIoOut (hostSetIoIn State.reset 0x05 0x7E) 0x05 = none ∧
    hostGetIoIn (hostClearIoIn (hostSetIoIn State.reset 0x05 0x7E) 0x05) 0x05 = none ∧
    hostGetIoOut (hostClearIoOut (hostSetIoOut (hostSetIoOut State.reset 0x01 0x55) 0x02 0x66) 0x01) 0x02 = some 0x66 := by
  decide

/-- Part 2, the `cyc` columns: XTHL, CNC taken and not, RC taken and not, MOV B,M, INR M's row, and RST 1 from the slot. -/
theorem test_cycles :
    stepCycles (prog [0xE3]) = some 18 ∧ stepCycles (prog [0xD4, 0x00, 0x20]) = some 17 ∧
    stepCycles { prog [0xD4, 0x00, 0x20] with flags := all1 } = some 11 ∧ stepCycles (prog [0xD8]) = some 5 ∧
    stepCycles { prog [0xD8] with flags := all1 } = some 11 ∧ stepCycles (prog [0x46]) = some 7 ∧
    stepCycles (prog [0x34]) = some 10 ∧
    stepCycles { State.reset with inte := true, intPending := true, intOpcode := 0xCF } = some 11 := by decide

/-- Part 2.9: the disassembler's further rows. -/
theorem test_disassemble :
    disassemble 0x08 0 0 = ("NOP", 1) ∧ disassemble 0xCB 0x34 0x12 = ("JMP $1234", 3) ∧ disassemble 0xD9 0 0 = ("RET", 1) ∧
    disassemble 0x7E 0 0 = ("MOV A,M", 1) ∧ disassemble 0x09 0 0 = ("DAD B", 1) ∧ disassemble 0x39 0 0 = ("DAD SP", 1) ∧
    disassemble 0xF1 0 0 = ("POP PSW", 1) ∧ disassemble 0xDB 0xFF 0 = ("IN $ff", 2) ∧ disassemble 0xFF 0 0 = ("RST 7", 1) := by
  decide

/-! ## Witnesses: the hypotheses of each statement met together -/

theorem witness_DecodeOfEncode :
    (Instr.mov .b .m).wellFormed = true ∧ (Instr.nopUndoc 7).wellFormed = true ∧ (Instr.callUndoc 3 0xFFFF).wellFormed = true := by
  decide

theorem witness_UndocParameterChangesFive :
    (0xFD : Byte) ∈ ([0xCB, 0xD9, 0xDD, 0xED, 0xFD] : List Byte) ∧ (0xCD : Byte) ∉ ([0xCB, 0xD9, 0xDD, 0xED, 0xFD] : List Byte) := by
  decide

theorem witness_OperandCodeAccess :
    State.inRom { State.reset with rom := win 0x0000 0x0000 } (joinBytes State.reset.h State.reset.l) = true := by decide

/-- A window, its two ends inside, the addresses beside it outside. -/
theorem witness_WriteThenRead :
    ({ State.reset with rom := win 0x0010 0x0020 } : State).rom = some { lo := 0x0010, hi := 0x0020 } ∧
    ((0x0010 : Word) ≤ 0x0010 ∧ (0x0010 : Word) ≤ 0x0020) ∧ ((0x0010 : Word) ≤ 0x0020 ∧ (0x0020 : Word) ≤ 0x0020) ∧
    ((0x000F : Word) < 0x0010 ∨ (0x0020 : Word) < 0x000F) ∧ ((0x0021 : Word) < 0x0010 ∨ (0x0020 : Word) < 0x0021) ∧
    State.reset.rom = none := by decide

theorem witness_WordIsTwoBytes :
    State.inRom { State.reset with rom := win 0x0010 0x0020 } 0xFFFF = false ∧
    State.inRom { State.reset with rom := win 0x0010 0x0020 } (0xFFFF + 1) = false ∧
    State.inRom { State.reset with rom := win 0x0010 0x0020 } (0x000F + 1) = true := by decide

theorem witness_WindowIsReadOnly :
    ∃ t, Sys2Proof.core.run 1 ({ prog [0x32, 0x10, 0x00] with a := 0xAA, rom := win 0x0010 0x0010 } : State) = .next t ∧
      State.inRom { prog [0x32, 0x10, 0x00] with a := 0xAA, rom := win 0x0010 0x0010 } 0x0010 = true :=
  ⟨_, rfl, by decide⟩

theorem witness_MemoryFrame :
    ∃ t, exec (.shld 0xFFFF) State.reset = .next t ∧ (0xFFFE : Word) ∉ storedBytes (.shld 0xFFFF) State.reset ∧
      (0x0001 : Word) ∉ storedBytes (.shld 0xFFFF) State.reset :=
  ⟨_, rfl, by decide, by decide⟩

theorem witness_RegisterFrame :
    ∃ t, exec (.lhld 0x1000) State.reset = .next t ∧ R8.e ≠ .m ∧ R8.e ∉ writtenRegs (.lhld 0x1000) :=
  ⟨_, rfl, by decide, by decide⟩

theorem witness_FlagFrame :
    (∃ t, exec (.inr .b) State.reset = .next t ∧ (writtenFlags (.inr .b)).c = false) ∧
    ∃ t, exec .rlc State.reset = .next t ∧ (writtenFlags .rlc).s = false ∧ (writtenFlags .rlc).z = false ∧
      (writtenFlags .rlc).a = false ∧ (writtenFlags .rlc).p = false :=
  ⟨⟨_, rfl, rfl⟩, _, rfl, rfl, rfl, rfl, rfl⟩

theorem witness_ControlFrame :
    ∃ t, exec (.outp 0x01) State.reset = .next t ∧ Instr.outp 0x01 ≠ .di ∧ Instr.outp 0x01 ≠ .ei ∧ Instr.outp 0x01 ≠ .hlt ∧
      Instr.outp 0x01 ≠ .outp 0x02 :=
  ⟨_, rfl, by decide, by decide, by decide, by decide⟩

theorem witness_StackPointerFrame :
    (∃ t, exec (.push .bc) State.reset = .next t ∧ writesSpFreely (.push .bc) = false) ∧
    (∃ t, exec .rnz State.reset = .next t ∧ writesSpFreely .rnz = false) ∧ writesSpFreely (.lxi .hl 0) = false :=
  ⟨⟨_, rfl, rfl⟩, ⟨_, rfl, rfl⟩, rfl⟩

theorem witness_DefaultPcUpdate :
    (∃ t, exec (.jz 0x1234) State.reset = .next t ∧ setsPc (.jz 0x1234) State.reset = false) ∧
    ∃ t, exec .nop State.reset = .next t ∧ setsPc .nop State.reset = false :=
  ⟨⟨_, rfl, rfl⟩, _, rfl, rfl⟩

theorem witness_StepKeepsStateInv :
    State.Inv { prog [0x77] with a := 0x99, rom := win 0x0010 0x0020 } ∧
      ∃ t, step { prog [0x77] with a := 0x99, rom := win 0x0010 0x0020 } = .next t :=
  ⟨by decide, _, rfl⟩

theorem witness_HostKeepsStateInv :
    State.reset.Inv ∧ ∃ t, hostSetRomspace State.reset 0x0010 0x0010 = .next t :=
  ⟨by decide, _, rfl⟩

theorem witness_StepRunsFetched :
    ¬((prog [0x3E, 0x0F]).inte = true ∧ (prog [0x3E, 0x0F]).intPending = true) ∧ (prog [0x3E, 0x0F]).halted = false ∧
    decode [(prog [0x3E, 0x0F]).readByte 0x0100, (prog [0x3E, 0x0F]).readByte 0x0101, (prog [0x3E, 0x0F]).readByte 0x0102] =
      .ok (.mvi .a 0x0F, [0x00]) := by decide

/-- The state of the acknowledge witnesses: halted, enabled, RST 1 pending. -/
def acked : State := { State.reset with halted := true, inte := true, intPending := true, intOpcode := 0xCF }

theorem witness_StepAcknowledges : acked.inte = true ∧ acked.intPending = true ∧ opLength acked.intOpcode = 1 := by decide

/-- Halted with interrupts disabled and a request waiting, and halted with interrupts enabled and no request. -/
theorem witness_HaltedStepIdles :
    (({ acked with inte := false } : State).halted = true ∧
      ¬(({ acked with inte := false } : State).inte = true ∧ ({ acked with inte := false } : State).intPending = true)) ∧
    (({ acked with intPending := false } : State).halted = true ∧
      ¬(({ acked with intPending := false } : State).inte = true ∧ ({ acked with intPending := false } : State).intPending = true)) := by
  decide

theorem witness_StepRefusedExactly :
    (({ acked with intOpcode := 0x3E } : State).inte = true ∧ ({ acked with intOpcode := 0x3E } : State).intPending = true ∧
      1 < opLength ({ acked with intOpcode := 0x3E } : State).intOpcode) ∧
    ¬(acked.inte = true ∧ acked.intPending = true ∧ 1 < opLength acked.intOpcode) := by decide

theorem witness_RestartFromSlot :
    acked.inte = true ∧ acked.intPending = true ∧ acked.intOpcode = 0xC7 + 8 * (1 : BitVec 3).setWidth 8 := by decide

theorem witness_OnlyAcknowledgeWakes :
    acked.halted = true ∧ ∃ t, step acked = .next t ∧ t.halted = false := ⟨rfl, _, rfl, rfl⟩

/-- EI, then in turn DI, EI and NOP as the instruction after it. -/
theorem witness_EnableIsDelayed :
    ((prog [0xFB, 0xF3]).halted = false ∧ (prog [0xFB, 0xF3]).inte = false ∧ (prog [0xFB, 0xF3]).eiPending = false ∧
      (prog [0xFB, 0xF3]).readByte (prog [0xFB, 0xF3]).pc = 0xFB) ∧
    look (prog [0xFB, 0xF3]) fetchInstr = some .di ∧ look (prog [0xFB, 0xFB]) fetchInstr = some .ei ∧
    look (prog [0xFB, 0x00]) fetchInstr = some .nop := by decide

theorem witness_PcAdvancesByDisassembledLength :
    ¬((prog [0xC2, 0x00, 0x20]).inte = true ∧ (prog [0xC2, 0x00, 0x20]).intPending = true) ∧
    (prog [0xC2, 0x00, 0x20]).halted = false ∧
    setsPc (fetchInstr { prog [0xC2, 0x00, 0x20] with flags := all1 }) { prog [0xC2, 0x00, 0x20] with flags := all1 } = false := by
  decide

theorem witness_ZeroMemoryRunsNops :
    (∀ x, State.reset.readByte x = 0) ∧ State.reset.halted = false ∧ State.reset.inte = false ∧ State.reset.eiPending = false ∧
    State.reset.ack = false := ⟨fun _ => rfl, rfl, rfl, rfl, rfl⟩

/-- A request that is acknowledged, and one that stays. -/
theorem witness_HostOwnedState :
    (∃ t, step acked = .next t ∧ acked.intPending = true) ∧
    ∃ t, step { State.reset with intPending := true } = .next t ∧ t.intPending = true :=
  ⟨⟨_, rfl, rfl⟩, _, rfl, rfl⟩

/-- A fetched step, an acknowledge from halt, and an idle step. -/
theorem witness_StepReportsCycles :
    (∃ t, step State.reset = .next t ∧ State.reset.halted = false) ∧
    (∃ t, step acked = .next t ∧ acked.inte = true ∧ acked.intPending = true) ∧
    ∃ t, step { State.reset with halted := true } = .next t :=
  ⟨⟨_, rfl, rfl⟩, ⟨_, rfl, rfl, rfl⟩, _, rfl⟩

theorem witness_MoveByte : ¬(R8.m = .m ∧ R8.b = .m) ∧ ¬(R8.b = .m ∧ R8.m = .m) := by decide

/-- The three numbers the hypotheses name, for A=FA with C and A clear: both corrections. -/
theorem witness_DecimalAdjust :
    (10 : Nat) = ({ State.reset with a := 0xFA } : State).a.toNat % 16 ∧
    (15 : Nat) = ({ State.reset with a := 0xFA } : State).a.toNat / 16 ∧
    (0x66 : Nat) = (if 9 < 10 ∨ ({ State.reset with a := 0xFA } : State).flags.a = true then 6 else 0) +
      (if ({ State.reset with a := 0xFA } : State).flags.c = true ∨ 9 < 15 ∨ (15 = 9 ∧ 9 < 10) then 0x60 else 0) := by decide

/-- The stack slot just above the window. -/
theorem witness_PushPopRoundTrip :
    State.inRom { State.reset with sp := 0x0102, rom := win 0x0000 0x00FF } (0x0102 - 2) = false ∧
    State.inRom { State.reset with sp := 0x0102, rom := win 0x0000 0x00FF } (0x0102 - 1) = false := by decide

/-- The second clause's stack slot across the top of memory. -/
theorem witness_PushPopRoundTrip_psw :
    State.inRom { State.reset with sp := 0xFFFF, rom := win 0x0001 0x00FF } 0xFFFF = false ∧
    State.inRom { State.reset with sp := 0xFFFF, rom := win 0x0001 0x00FF } (0xFFFF + 1) = false := by decide

/-- The stack slot across the top of memory, from SP = 1. -/
theorem witness_CallRetRoundTrip :
    State.inRom { State.reset with sp := 0x0001, rom := win 0x0001 0x00FF } (0x0001 - 2) = false ∧
    State.inRom { State.reset with sp := 0x0001, rom := win 0x0001 0x00FF } (0x0001 - 1) = false := by decide

theorem witness_Disassembly : opLength 0x00 = 1 ∧ opLength 0xD9 = 1 ∧ opLength 0xD3 = 2 := by decide

theorem witness_HostMemoryAccess :
    State.inRom { State.reset with rom := win 0x0010 0x0010 } 0x0010 = true ∧ (0x0010 : Word) ≤ 0x0010 ∧
    (0x000F : Word) < 0x0010 := by decide

end Sys2Proof.Tests
end

section
/-! The operand a 3-bit code names (10_state.md R11 to R13). -/

namespace Sys2Proof.Machine

/-- Inside the read-only window a write is discarded (20_memory.md R44). -/
theorem State.writeByte_of_inRom {s : State} {x : Word} (h : s.inRom x = true) (v : Byte) : s.writeByte x v = s :=
  if_pos h

/-- The operand M is read from memory at H || L. -/
theorem State.getR8_m (s : State) : s.getR8 .m = s.readByte (joinBytes s.h s.l) := rfl

/-- The operand M is written to memory at H || L. -/
theorem State.setR8_m (s : State) (v : Byte) : s.setR8 .m v = s.writeByte (joinBytes s.h s.l) v := rfl

theorem State.setR8_m_of_inRom {s : State} (h : s.inRom (joinBytes s.h s.l) = true) (v : Byte) : s.setR8 .m v = s :=
  (s.setR8_m v).trans (State.writeByte_of_inRom h v)

/-- Settles O6: the code table is finite, each register's access is a case of `getR8` or `setR8`, and M goes through memory at
H || L, where the window discards the write. -/
theorem operandCodeAccess : Obligations.OperandCodeAccess := by
  have codes : ([0, 1, 2, 3, 4, 5, 6, 7] : List (BitVec 3)).map R8.ofCode = [.b, .c, .d, .e, .h, .l, .m, .a] := by decide
  refine ⟨codes, fun s v => ?_⟩
  exact ⟨rfl, rfl, rfl, rfl, rfl, rfl, rfl, s.getR8_m, rfl, rfl, rfl, rfl, rfl, rfl, rfl, s.setR8_m v,
    fun h => State.setR8_m_of_inRom h v⟩

end Sys2Proof.Machine
end

section
/-! Data movement (41_data_movement.md): each instruction's bytes and its next state, then the family's statements. -/

namespace Sys2Proof.Machine

/-! ## Bytes -/

theorem loByte_eq_setWidth (v : Word) : loByte v = v.setWidth 8 := by
  apply BitVec.eq_of_toNat_eq
  rw [loByte_toNat, BitVec.toNat_setWidth]

theorem hiByte_eq_setWidth (v : Word) : hiByte v = (v >>> 8).setWidth 8 := by
  apply BitVec.eq_of_toNat_eq
  have hv := v.isLt
  rw [hiByte_toNat, BitVec.toNat_setWidth, BitVec.toNat_ushiftRight, Nat.shiftRight_eq_div_pow]
  omega

/-- A 16-bit operand as its two bytes cut out by shifts, low byte first (R75). -/
theorem withWord_eq (op : Byte) (w : Word) : withWord op w = [op, w.setWidth 8, (w >>> 8).setWidth 8] := by
  rw [withWord, loByte_eq_setWidth, hiByte_eq_setWidth]

/-- `01dddsss` as a sum (R78). -/
theorem encode_mov (dst src : R8) :
    encode (.mov dst src) = [0x40 + 8 * dst.code.setWidth 8 + src.code.setWidth 8] := by
  have opcode : ∀ y z : BitVec 3, 0b01#2 ++ y ++ z = 0x40 + 8 * y.setWidth 8 + z.setWidth 8 := by decide
  exact congrArg (fun op => [op]) (opcode dst.code src.code)

/-- `00ddd110` as a sum (R77). -/
theorem encode_mvi (dst : R8) (imm : Byte) : encode (.mvi dst imm) = [0x06 + 8 * dst.code.setWidth 8, imm] := by
  have opcode : ∀ y : BitVec 3, 0b00#2 ++ y ++ 0b110#3 = 0x06 + 8 * y.setWidth 8 := by decide
  exact congrArg (fun op => [op, imm]) (opcode dst.code)

/-- `00pp0001` as a sum (R77). -/
theorem encode_lxi (rp : RP) (imm : Word) :
    encode (.lxi rp imm) = [0x01 + 16 * rp.code.setWidth 8, imm.setWidth 8, (imm >>> 8).setWidth 8] := by
  have opcode : ∀ y : BitVec 2, 0b00#2 ++ y ++ 0b0001#4 = 0x01 + 16 * y.setWidth 8 := by decide
  exact (congrArg (withWord · imm) (opcode rp.code)).trans (withWord_eq _ imm)

/-! ## Next states -/

/-- `npc` reads PC and `ack` alone, so an update that keeps both leaves it as it was. -/
theorem State.advance_eq {s t : State} (hpc : t.pc = s.pc) (hack : t.ack = s.ack) (len : Nat) :
    t.advance len = { t with pc := s.npc len } := by
  rw [State.advance, State.npc, hpc, hack, ← State.npc]

theorem State.advance_setR8 (s : State) (r : R8) (v : Byte) (len : Nat) :
    (s.setR8 r v).advance len = { s.setR8 r v with pc := s.npc len } :=
  State.advance_eq (s.setR8_pc r v) (s.setR8_ack r v) len

theorem State.advance_setRP (s : State) (rp : RP) (v : Word) (len : Nat) :
    (s.setRP rp v).advance len = { s.setRP rp v with pc := s.npc len } :=
  State.advance_eq (s.setRP_pc rp v) (s.setRP_ack rp v) len

theorem State.advance_writeByte (s : State) (x : Word) (v : Byte) (len : Nat) :
    (s.writeByte x v).advance len = { s.writeByte x v with pc := s.npc len } :=
  State.advance_eq (s.writeByte_pc x v) (s.writeByte_ack x v) len

theorem State.advance_writeWord (s : State) (x v : Word) (len : Nat) :
    (s.writeWord x v).advance len = { s.writeWord x v with pc := s.npc len } :=
  State.advance_eq (s.writeWord_pc x v) (s.writeWord_ack x v) len

/-- A word write of HL is L at the address, then H at the next one. -/
theorem State.writeWord_hl (s : State) (x : Word) :
    s.writeWord x s.hl = (s.writeByte x s.l).writeByte (x + 1) s.h := by
  rw [State.writeWord, State.hl, loByte_joinBytes, hiByte_joinBytes]

/-- HL loaded from memory: L from the address, H from the next one. -/
theorem State.setRP_hl_readWord (s t : State) (x : Word) :
    t.setRP .hl (s.readWord x) = { t with l := s.readByte x, h := s.readByte (x + 1) } := by
  rw [State.setRP, State.readWord, loByte_joinBytes, hiByte_joinBytes]

/-- LHLD (R127). -/
theorem exec_lhld (addr : Word) (s : State) :
    exec (.lhld addr) s =
      .next { s with l := s.readByte addr, h := s.readByte (addr + 1), pc := s.npc 3 } := by
  change Host.Outcome.next ((s.setRP .hl (s.readWord addr)).advance 3) = _
  rw [State.advance_setRP, State.setRP_hl_readWord]

/-- SHLD (R128). -/
theorem exec_shld (addr : Word) (s : State) :
    exec (.shld addr) s = .next { (s.writeByte addr s.l).writeByte (addr + 1) s.h with pc := s.npc 3 } := by
  change Host.Outcome.next ((s.writeWord addr s.hl).advance 3) = _
  rw [State.advance_writeWord, State.writeWord_hl]

/-- XTHL (R130): HL receives the word that stood at SP, whether or not the window lets HL be written there. -/
theorem exec_xthl (s : State) :
    exec .xthl s =
      .next { (s.writeByte s.sp s.l).writeByte (s.sp + 1) s.h with
        l := s.readByte s.sp, h := s.readByte (s.sp + 1), pc := s.npc 1 } := by
  have hpc : ((s.writeWord s.sp s.hl).setRP .hl (s.readWord s.sp)).pc = s.pc := by simp
  have hack : ((s.writeWord s.sp s.hl).setRP .hl (s.readWord s.sp)).ack = s.ack := by simp
  change Host.Outcome.next (((s.writeWord s.sp s.hl).setRP .hl (s.readWord s.sp)).advance 1) = _
  rw [State.advance_eq hpc hack, State.setRP_hl_readWord, State.writeWord_hl]

/-! ## The obligations -/

/-- Settles O36: writing an operand leaves PC and `ack`, and so `npc`, as they were, whatever the operand. -/
theorem moveByte : Obligations.MoveByte := by
  constructor
  · intro dst src s _
    exact ⟨encode_mov dst src, congrArg _ (s.advance_setR8 dst _ 1), rfl⟩
  · intro dst imm s
    exact ⟨encode_mvi dst imm, congrArg _ (s.advance_setR8 dst imm 2), rfl⟩

/-- Settles O37: LDA and LDAX write A alone; LHLD takes the two bytes of the word read apart. -/
theorem loadFromMemory : Obligations.LoadFromMemory := by
  intro addr s
  refine ⟨?lda, ?ldaxBC, ?ldaxDE, ?lhld⟩
  case lda => exact ⟨withWord_eq _ addr, rfl, rfl⟩
  case ldaxBC => exact ⟨rfl, rfl, rfl⟩
  case ldaxDE => exact ⟨rfl, rfl, rfl⟩
  case lhld => exact ⟨withWord_eq _ addr, exec_lhld addr s, rfl⟩

/-- Settles O38: a byte write, or the two of SHLD, leave PC and `ack`, and so `npc`, as they were. -/
theorem storeToMemory : Obligations.StoreToMemory := by
  intro addr s
  refine ⟨?sta, ?staxBC, ?staxDE, ?shld⟩
  case sta => exact ⟨withWord_eq _ addr, congrArg _ (s.advance_writeByte addr s.a 3), rfl⟩
  case staxBC => exact ⟨rfl, congrArg _ (s.advance_writeByte (s.pointer .bc) s.a 1), rfl⟩
  case staxDE => exact ⟨rfl, congrArg _ (s.advance_writeByte (s.pointer .de) s.a 1), rfl⟩
  case shld => exact ⟨withWord_eq _ addr, exec_shld addr s, rfl⟩

/-- Settles O39: LXI goes through the pair write and XTHL through the word write; the others copy registers. -/
theorem moveWord : Obligations.MoveWord := by
  intro s
  refine ⟨?lxi, ?xchg, ?xthl, ?sphl, ?pchl⟩
  case lxi =>
    intro rp imm
    exact ⟨encode_lxi rp imm, congrArg _ (s.advance_setRP rp imm 3), rfl⟩
  case xchg => exact ⟨rfl, rfl, rfl⟩
  case xthl => exact ⟨rfl, exec_xthl s, rfl⟩
  case sphl => exact ⟨rfl, rfl, rfl⟩
  case pchl => exact ⟨rfl, rfl, rfl⟩

end Sys2Proof.Machine
end

section
/-! Arithmetic and logic (42_arithmetic_logic.md): the flag unit on numbers, each instruction's bytes and its next state, then the
family's statements. -/

namespace Sys2Proof.Machine

/-! ## The flag unit -/

theorem lowNibble_eq_mod (v : Byte) : lowNibble v = v.toNat % 16 :=
  (BitVec.toNat_and v 0x0F).trans (Nat.and_two_pow_sub_one_eq_mod v.toNat 4)

theorem lowNibble_not (v : Byte) : lowNibble (~~~v) = 15 - v.toNat % 16 := by
  have hv := v.isLt
  rw [lowNibble_eq_mod, BitVec.toNat_not]
  omega

/-- The parity test adds up the eight bits that `onesCount` counts. -/
theorem evenParity_eq (v : Byte) : evenParity v = decide (onesCount v % 2 = 0) := by
  have bits : List.range 8 = [0, 1, 2, 3, 4, 5, 6, 7] := rfl
  have one : ∀ b : Bool, (if b = true then 1 else 0) = b.toNat := by decide
  rw [evenParity, onesCount, bits, beq_eq_decide, decide_eq_decide]
  simp only [List.countP_cons, List.countP_nil, one]
  omega

/-- `SZP(v)` (R140): S, Z and P of the result byte, A and C as they were. -/
theorem szp_eq (f : Flags) (v : Byte) :
    szp f v = { s := v.msb, z := decide (v = 0), a := f.a, p := decide (onesCount v % 2 = 0), c := f.c } := by
  rw [szp, evenParity_eq, BitVec.msb_eq_getLsbD_last]
  rfl

theorem addFlags_fst (f : Flags) (x y : Byte) (cin : Bool) :
    (addFlags f x y cin).1 = x + y + BitVec.ofNat 8 cin.toNat := by
  simp [addFlags, BitVec.ofNat_add]

/-- Settles O9: the result is the exact sum cut to a byte, and `x > 0xFF` is `x ≥ 256`. -/
theorem addFlagsArithmetic : Obligations.AddFlagsArithmetic := by
  intro f x y cin
  refine ⟨addFlags_fst f x y cin, (szp_eq _ _).trans ?_⟩
  simp only [lowNibble_eq_mod]
  rfl

theorem subFlags_fst (f : Flags) (x y : Byte) (bin : Bool) :
    (subFlags f x y bin).1 = x - y - BitVec.ofNat 8 bin.toNat := by
  have hy := y.isLt
  have hbin := Bool.toNat_le bin
  apply BitVec.eq_of_toNat_eq
  simp only [subFlags, BitVec.toNat_ofNat, BitVec.toNat_not, BitVec.toNat_sub]
  omega

/-- The adder's carry out of bit 7 is the inverse of the borrow (90_conflicts.md C10). -/
theorem carry_of_complement_iff (x y : Byte) (bin : Bool) :
    0xFF < x.toNat + (~~~y).toNat + (1 - bin.toNat) ↔ ¬ x.toNat < y.toNat + bin.toNat := by
  have hy := y.isLt
  have hbin := Bool.toNat_le bin
  rw [BitVec.toNat_not]
  omega

/-- The adder's carry out of bit 3 is the inverse of the low nibble's borrow. -/
theorem nibbleCarry_of_complement_iff (x y : Byte) (bin : Bool) :
    0x0F < lowNibble x + lowNibble (~~~y) + (1 - bin.toNat) ↔ y.toNat % 16 + bin.toNat ≤ x.toNat % 16 := by
  have hbin := Bool.toNat_le bin
  rw [lowNibble_eq_mod, lowNibble_not]
  omega

/-- Settles O10: adding the complement carries exactly where subtracting does not borrow. -/
theorem subFlagsBorrow : Obligations.SubFlagsBorrow := by
  intro f x y bin
  refine ⟨subFlags_fst f x y bin, (szp_eq _ _).trans ?_⟩
  simp only [carry_of_complement_iff, nibbleCarry_of_complement_iff, decide_not, Bool.not_not]
  rfl

/-- Settles O11: each is SZP of the result over flags with C cleared, and bit 3 of an OR is the OR of the bits. -/
theorem logicFlags : Obligations.LogicFlags := by
  intro f x y
  refine ⟨rfl, (szp_eq _ _).trans ?_, szp_eq _ x⟩
  rw [BitVec.getLsbD_or]

/-! ## Decimal adjustment -/

/-- What DAA's first correction adds (R166). -/
def lowCorrection (f : Flags) (v : Byte) : Nat := if 9 < v.toNat % 16 ∨ f.a = true then 6 else 0

/-- What DAA's second correction adds, by the closed form (R166), which tests the nibbles of the old A. -/
def highCorrection (f : Flags) (v : Byte) : Nat :=
  if f.c = true ∨ 9 < v.toNat / 16 ∨ (v.toNat / 16 = 9 ∧ 9 < v.toNat % 16) then 0x60 else 0

/-- What DAA adds in all. -/
def decimalCorrection (f : Flags) (v : Byte) : Nat := lowCorrection f v + highCorrection f v

/-- The second correction leaves the low digit alone. -/
theorem decimalCorrection_mod (f : Flags) (v : Byte) : decimalCorrection f v % 16 = lowCorrection f v := by
  unfold decimalCorrection lowCorrection highCorrection
  split <;> split <;> rfl

/-- The algorithm tests the first sum, the closed form the old nibbles; a 6 that the old A flag adds to a digit up to 9 does not
carry, so the two agree. -/
theorem firstSum_ge_iff (f : Flags) (v : Byte) :
    0xA0 ≤ v.toNat + lowCorrection f v ↔ 9 < v.toNat / 16 ∨ (v.toNat / 16 = 9 ∧ 9 < v.toNat % 16) := by
  unfold lowCorrection
  split <;> omega

/-- DAA's nibble carry: without the first correction a nibble does not exceed 15. -/
theorem nibbleCarry_eq (f : Flags) (v : Byte) :
    ((decide (9 < lowNibble v) || f.a) && decide (0x0F < lowNibble v + 6)) =
      decide (15 < v.toNat % 16 + lowCorrection f v) := by
  rw [lowNibble_eq_mod, lowCorrection]
  split
  next corrects => simp [corrects]
  next keeps =>
    have fits : ¬ 15 < v.toNat % 16 := by omega
    simp [keeps, fits]

theorem lowCorrection_eq (f : Flags) (v : Byte) :
    (if decide (9 < lowNibble v) || f.a then 6 else 0) = lowCorrection f v := by
  simp [lowCorrection, lowNibble_eq_mod]

theorem highCorrection_eq (f : Flags) (v : Byte) :
    (if decide (0xA0 ≤ v.toNat + lowCorrection f v) || f.c then 0x60 else 0) = highCorrection f v := by
  simp [highCorrection, firstSum_ge_iff, or_comm]

/-- C after DAA: the second correction fires exactly when the old C was 1 or the whole correction reaches 0x60. -/
theorem highCorrection_carry (f : Flags) (v : Byte) :
    (decide (0xA0 ≤ v.toNat + lowCorrection f v) || f.c) = (f.c || decide (0x60 ≤ decimalCorrection f v)) := by
  cases carry : f.c with
  | true => simp
  | false =>
    have low : lowCorrection f v ≤ 6 := by unfold lowCorrection; split <;> omega
    simp only [Bool.or_false, Bool.false_or, decide_eq_decide, firstSum_ge_iff, decimalCorrection, highCorrection, carry,
      Bool.false_eq_true, false_or]
    split <;> omega

/-- DAA by the closed form (R166). -/
theorem decimalAdjust_eq (f : Flags) (v : Byte) :
    decimalAdjust f v =
      (BitVec.ofNat 8 (v.toNat + decimalCorrection f v),
        szp
          { f with
            a := decide (15 < v.toNat % 16 + decimalCorrection f v % 16)
            c := f.c || decide (0x60 ≤ decimalCorrection f v) }
          (BitVec.ofNat 8 (v.toNat + decimalCorrection f v))) := by
  simp only [decimalAdjust, lowCorrection_eq, nibbleCarry_eq, highCorrection_eq, Nat.add_assoc]
  rw [highCorrection_carry, decimalCorrection_mod]
  rfl

/-! ## Bytes -/

/-- `10aaasss` as a sum, `aaa` the operation (R79). -/
theorem encode_alu (op : BitVec 3) (r : R8) :
    [0b10#2 ++ op ++ r.code] = [(0x80 + 8 * op.setWidth 8 + r.code.setWidth 8 : Byte)] := by
  have opcode : ∀ y z : BitVec 3, 0b10#2 ++ y ++ z = 0x80 + 8 * y.setWidth 8 + z.setWidth 8 := by decide
  exact congrArg (fun op => [op]) (opcode op r.code)

/-- `00ddd10x` as a sum, `x` telling DCR from INR (R77). -/
theorem encode_inr (dst : R8) : encode (.inr dst) = [0x04 + 8 * dst.code.setWidth 8] := by
  have opcode : ∀ y : BitVec 3, 0b00#2 ++ y ++ 0b100#3 = 0x04 + 8 * y.setWidth 8 := by decide
  exact congrArg (fun op => [op]) (opcode dst.code)

theorem encode_dcr (dst : R8) : encode (.dcr dst) = [0x05 + 8 * dst.code.setWidth 8] := by
  have opcode : ∀ y : BitVec 3, 0b00#2 ++ y ++ 0b101#3 = 0x05 + 8 * y.setWidth 8 := by decide
  exact congrArg (fun op => [op]) (opcode dst.code)

/-! ## Next states -/

theorem State.advance_setAF (s : State) (r : Byte × Flags) (len : Nat) :
    (s.setAF r).advance len = { s with a := r.1, flags := r.2, pc := s.npc len } :=
  State.advance_eq (s.setAF_pc r) (s.setAF_ack r) len

theorem State.advance_setF (s : State) (r : Byte × Flags) (len : Nat) :
    (s.setF r).advance len = { s with flags := r.2, pc := s.npc len } :=
  State.advance_eq (s.setF_pc r) (s.setF_ack r) len

theorem State.advance_setLogic (s : State) (r : Byte) (len : Nat) :
    (s.setLogic r).advance len = { s with a := r, flags := orFlags s.flags r, pc := s.npc len } :=
  State.advance_eq (s.setLogic_pc r) (s.setLogic_ack r) len

/-- No operand is a flag, so an operand's write and a flag update commute: the window alone decides the write. -/
theorem State.setR8_with_flags (s : State) (f : Flags) (dst : R8) (v : Byte) :
    { s with flags := f }.setR8 dst v = { s.setR8 dst v with flags := f } := by
  cases dst with
  | m => rw [State.setR8_m, State.setR8_m, State.writeByte_eq, State.writeByte_eq]; rfl
  | _ => rfl

theorem State.advance_setCounted (s : State) (dst : R8) (r : Byte × Flags) (len : Nat) :
    (s.setCounted dst r).advance len =
      { s.setR8 dst r.1 with flags := { r.2 with c := s.flags.c }, pc := s.npc len } := by
  rw [State.advance_eq (s.setCounted_pc dst r) (s.setCounted_ack dst r), State.setCounted, State.setR8_with_flags]

/-! ## The obligations -/

/-- Settles O40: the carry-in is 0 or the old C, and the sum goes to A and the flags. -/
theorem additions : Obligations.Additions := by
  intro r imm s
  refine ⟨?add, ?adi, ?adc, ?aci⟩
  case add => exact ⟨encode_alu 0 r, congrArg Host.Outcome.next (s.advance_setAF _ 1), rfl⟩
  case adi => exact ⟨rfl, congrArg Host.Outcome.next (s.advance_setAF _ 2), rfl⟩
  case adc => exact ⟨encode_alu 1 r, congrArg Host.Outcome.next (s.advance_setAF _ 1), rfl⟩
  case aci => exact ⟨rfl, congrArg Host.Outcome.next (s.advance_setAF _ 2), rfl⟩

/-- Settles O41: the comparisons discard the difference, the others put it in A. -/
theorem subtractionsAndComparisons : Obligations.SubtractionsAndComparisons := by
  intro r imm s
  refine ⟨?sub, ?sui, ?sbb, ?sbi, ?cmp, ?cpi⟩
  case sub => exact ⟨encode_alu 2 r, congrArg Host.Outcome.next (s.advance_setAF _ 1), rfl⟩
  case sui => exact ⟨rfl, congrArg Host.Outcome.next (s.advance_setAF _ 2), rfl⟩
  case sbb => exact ⟨encode_alu 3 r, congrArg Host.Outcome.next (s.advance_setAF _ 1), rfl⟩
  case sbi => exact ⟨rfl, congrArg Host.Outcome.next (s.advance_setAF _ 2), rfl⟩
  case cmp => exact ⟨encode_alu 7 r, congrArg Host.Outcome.next (s.advance_setF _ 1), rfl⟩
  case cpi => exact ⟨rfl, congrArg Host.Outcome.next (s.advance_setF _ 2), rfl⟩

/-- Settles O42: AND has flags of its own; XOR and OR share theirs. -/
theorem logicInstructions : Obligations.LogicInstructions := by
  intro r imm s
  refine ⟨?ana, ?ani, ?xra, ?xri, ?ora, ?ori⟩
  case ana => exact ⟨encode_alu 4 r, congrArg Host.Outcome.next (s.advance_setAF _ 1), rfl⟩
  case ani => exact ⟨rfl, congrArg Host.Outcome.next (s.advance_setAF _ 2), rfl⟩
  case xra => exact ⟨encode_alu 5 r, congrArg Host.Outcome.next (s.advance_setLogic _ 1), rfl⟩
  case xri => exact ⟨rfl, congrArg Host.Outcome.next (s.advance_setLogic _ 2), rfl⟩
  case ora => exact ⟨encode_alu 6 r, congrArg Host.Outcome.next (s.advance_setLogic _ 1), rfl⟩
  case ori => exact ⟨rfl, congrArg Host.Outcome.next (s.advance_setLogic _ 2), rfl⟩

/-- INR's result (R161): AddFlags with 1, C kept; a nibble and 1 carry exactly from 0xF. -/
theorem addFlags_one (f : Flags) (v : Byte) :
    (addFlags f v 1 false).1 = v + 1 ∧
    { (addFlags f v 1 false).2 with c := f.c } =
      { s := (v + 1).msb, z := decide (v + 1 = 0), a := decide (v.toNat % 16 = 15)
        p := decide (onesCount (v + 1) % 2 = 0), c := f.c } := by
  obtain ⟨result, flags⟩ := addFlagsArithmetic f v 1 false
  have sum : (addFlags f v 1 false).1 = v + 1 := result.trans (BitVec.add_zero _)
  have nibble : 16 ≤ v.toNat % 16 + 1 ↔ v.toNat % 16 = 15 := by omega
  refine ⟨sum, ?_⟩
  rw [flags, sum, ← decide_eq_decide.mpr nibble]
  rfl

/-- DCR's result (R162): SubFlags with 1, C kept; 1 is borrowed from above exactly where the nibble is 0. -/
theorem subFlags_one (f : Flags) (v : Byte) :
    (subFlags f v 1 false).1 = v - 1 ∧
    { (subFlags f v 1 false).2 with c := f.c } =
      { s := (v - 1).msb, z := decide (v - 1 = 0), a := decide (v.toNat % 16 ≠ 0)
        p := decide (onesCount (v - 1) % 2 = 0), c := f.c } := by
  obtain ⟨result, flags⟩ := subFlagsBorrow f v 1 false
  have difference : (subFlags f v 1 false).1 = v - 1 := result.trans (BitVec.sub_zero _)
  have nibble : 1 ≤ v.toNat % 16 ↔ v.toNat % 16 ≠ 0 := by omega
  refine ⟨difference, ?_⟩
  rw [flags, difference, ← decide_eq_decide.mpr nibble]
  rfl

/-- Settles O43: the flag unit's result for an operand of 1, written back with C kept. -/
theorem incrementDecrement : Obligations.IncrementDecrement := by
  intro dst s
  obtain ⟨sum, sumFlags⟩ := addFlags_one s.flags (s.getR8 dst)
  obtain ⟨difference, differenceFlags⟩ := subFlags_one s.flags (s.getR8 dst)
  constructor
  · refine ⟨encode_inr dst, congrArg Host.Outcome.next ((s.advance_setCounted dst _ 1).trans ?_), rfl⟩
    rw [sumFlags, sum]
  · refine ⟨encode_dcr dst, congrArg Host.Outcome.next ((s.advance_setCounted dst _ 1).trans ?_), rfl⟩
    rw [differenceFlags, difference]

/-- Settles O45: the algorithm is the closed form, whose second correction does not reach the low digit. -/
theorem decimalAdjust_closedForm : Obligations.DecimalAdjust := by
  rintro s _ _ _ rfl rfl rfl
  refine ⟨rfl, congrArg Host.Outcome.next ((s.advance_setAF (decimalAdjust s.flags s.a) 1).trans ?_), rfl⟩
  rw [decimalAdjust_eq, szp_eq]
  rfl

end Sys2Proof.Machine
end

section
/-! Rotates (43_rotates.md): each rotation's A and C by the core's rotations and shifts, then the family's statement. -/

namespace Sys2Proof.Machine

/-! ## The bit that enters -/

/-- Shifting bit 7 down to the end leaves that bit alone. -/
theorem ushiftRight_seven (v : Byte) : v >>> 7 = BitVec.ofNat 8 (v.getLsbD 7).toNat := by
  have bit : (v.toNat.testBit 7).toNat = v.toNat / 2 ^ 7 % 2 := Nat.toNat_testBit v.toNat 7
  apply BitVec.eq_of_toNat_eq
  rw [BitVec.toNat_ushiftRight, BitVec.toNat_ofNat, BitVec.getLsbD, bit, Nat.shiftRight_eq_div_pow]
  omega

/-- Shifting a byte up by seven drops all its bits but bit 0. -/
theorem shiftLeft_seven (v : Byte) : v <<< 7 = BitVec.ofNat 8 (v.getLsbD 0).toNat <<< 7 := by
  have bit : (v.toNat.testBit 0).toNat = v.toNat / 2 ^ 0 % 2 := Nat.toNat_testBit v.toNat 0
  apply BitVec.eq_of_toNat_eq
  rw [BitVec.toNat_shiftLeft, BitVec.toNat_shiftLeft, BitVec.toNat_ofNat, BitVec.getLsbD, bit, Nat.shiftLeft_eq,
    Nat.shiftLeft_eq]
  omega

/-- The old C as it enters bit 0 (R182). -/
theorem carryIn_low (c : Bool) : BitVec.ofNat 8 c.toNat = if c then 0x01 else 0x00 := by
  cases c <;> rfl

/-- The old C as it enters bit 7 (R183). -/
theorem carryIn_high (c : Bool) : BitVec.ofNat 8 c.toNat <<< 7 = if c then 0x80 else 0x00 := by
  cases c <;> rfl

/-! ## The rotations -/

theorem rotateLeft_eq (v : Byte) : rotateLeft v = (v.rotateLeft 1, v.msb) := by
  have rotation : v.rotateLeft 1 = v <<< 1 ||| v >>> 7 := rfl
  rw [rotation, ushiftRight_seven, BitVec.msb_eq_getLsbD_last]
  rfl

theorem rotateRight_eq (v : Byte) : rotateRight v = (v.rotateRight 1, v.getLsbD 0) := by
  have rotation : v.rotateRight 1 = v >>> 1 ||| v <<< 7 := rfl
  rw [rotation, shiftLeft_seven]
  rfl

theorem rotateLeftCarry_eq (v : Byte) (c : Bool) :
    rotateLeftCarry v c = (v <<< 1 ||| (if c then 0x01 else 0x00), v.msb) := by
  rw [rotateLeftCarry, carryIn_low, BitVec.msb_eq_getLsbD_last]

theorem rotateRightCarry_eq (v : Byte) (c : Bool) :
    rotateRightCarry v c = (v >>> 1 ||| (if c then 0x80 else 0x00), v.getLsbD 0) := by
  rw [rotateRightCarry, carryIn_high]

/-! ## The obligation -/

theorem State.advance_setRotated (s : State) (r : Byte × Bool) (len : Nat) :
    (s.setRotated r).advance len = { s with a := r.1, flags := { s.flags with c := r.2 }, pc := s.npc len } :=
  State.advance_eq (s.setRotated_pc r) (s.setRotated_ack r) len

/-- An instruction that executes as a rotation with result `r` takes A and C from `r`, however `r` is written. -/
theorem exec_of_rotated {i : Instr} {s : State} {r r' : Byte × Bool}
    (run : exec i s = .next ((s.setRotated r).advance 1)) (result : r = r') :
    exec i s = .next { s with a := r'.1, flags := { s.flags with c := r'.2 }, pc := s.npc 1 } := by
  rw [run, result, State.advance_setRotated]

/-- Settles O46: A and C are the rotation's result, and the update of the two leaves PC and `ack`, and so `npc`, as they were. -/
theorem rotates : Obligations.Rotates := by
  intro s
  refine ⟨?rlc, ?rrc, ?ral, ?rar⟩
  case rlc => exact ⟨rfl, exec_of_rotated rfl (rotateLeft_eq s.a), rfl⟩
  case rrc => exact ⟨rfl, exec_of_rotated rfl (rotateRight_eq s.a), rfl⟩
  case ral => exact ⟨rfl, exec_of_rotated rfl (rotateLeftCarry_eq s.a s.flags.c), rfl⟩
  case rar => exact ⟨rfl, exec_of_rotated rfl (rotateRightCarry_eq s.a s.flags.c), rfl⟩

end Sys2Proof.Machine
end

section
/-! Control flow (44_control_flow.md): the next state of each common form, then the family's statements. -/

namespace Sys2Proof.Machine

/-! ## Next states -/

/-- A taken jump and one not taken differ in PC alone (R223). -/
theorem State.jumpIf_eq (s : State) (cond : Cond) (addr : Word) :
    s.jumpIf cond addr = { s with pc := if condHolds s.flags cond then addr else s.npc 3 } :=
  (apply_ite s.jump (condHolds s.flags cond = true) addr (s.npc 3)).symm

/-- A taken call pushes the address after its third byte; one not taken moves PC past it (R224). -/
theorem State.callIf_eq (s : State) (cond : Cond) (addr : Word) :
    s.callIf cond addr =
      if condHolds s.flags cond then { s.push16 (s.npc 3) with pc := addr } else { s with pc := s.npc 3 } :=
  rfl

/-- A taken return pops PC; one not taken moves PC past its byte (R225). -/
theorem State.returnIf_eq (s : State) (cond : Cond) :
    s.returnIf cond =
      if condHolds s.flags cond then { s with pc := s.readWord s.sp, sp := s.sp + 2 } else { s with pc := s.npc 1 } :=
  rfl

/-! ## The common forms -/

/-- What every conditional jump does, from its opcode and its condition. -/
theorem runsAs_of_jumpIf {i : Instr} {op : Byte} {addr : Word} {s : State} (cond : Cond)
    (bytes : encode i = withWord op addr) (run : exec i s = .next (s.jumpIf cond addr)) (count : cycles i s = 10) :
    RunsAs i [op, addr.setWidth 8, (addr >>> 8).setWidth 8] s
      { s with pc := if condHolds s.flags cond then addr else s.npc 3 } 10 :=
  ⟨bytes.trans (withWord_eq op addr), run.trans (congrArg Host.Outcome.next (s.jumpIf_eq cond addr)), count⟩

/-- What every conditional call does, from its opcode and its condition. -/
theorem runsAs_of_callIf {i : Instr} {op : Byte} {addr : Word} {s : State} (cond : Cond)
    (bytes : encode i = withWord op addr) (run : exec i s = .next (s.callIf cond addr))
    (count : cycles i s = cyclesCond cond s 17 11) :
    RunsAs i [op, addr.setWidth 8, (addr >>> 8).setWidth 8] s
      (if condHolds s.flags cond then { s.push16 (s.npc 3) with pc := addr } else { s with pc := s.npc 3 })
      (if condHolds s.flags cond then 17 else 11) :=
  ⟨bytes.trans (withWord_eq op addr), run.trans (congrArg Host.Outcome.next (s.callIf_eq cond addr)), count⟩

/-- What every conditional return does, from its opcode and its condition. -/
theorem runsAs_of_returnIf {i : Instr} {op : Byte} {s : State} (cond : Cond)
    (bytes : encode i = [op]) (run : exec i s = .next (s.returnIf cond)) (count : cycles i s = cyclesCond cond s 11 5) :
    RunsAs i [op] s
      (if condHolds s.flags cond then { s with pc := s.readWord s.sp, sp := s.sp + 2 } else { s with pc := s.npc 1 })
      (if condHolds s.flags cond then 11 else 5) :=
  ⟨bytes, run.trans (congrArg Host.Outcome.next (s.returnIf_eq cond)), count⟩

/-- `11nnn111` as a sum (R80). -/
theorem encode_rst (n : BitVec 3) : encode (.rst n) = [0xC7 + 8 * n.setWidth 8] := by
  have opcode : ∀ y : BitVec 3, 0b11#2 ++ y ++ 0b111#3 = 0xC7 + 8 * y.setWidth 8 := by decide
  exact congrArg (fun op => [op]) (opcode n)

/-! ## The obligations -/

/-- Settles O47: every row of the table is the conditional jump on its condition. -/
theorem jumps : Obligations.Jumps := by
  intro addr s
  refine ⟨⟨withWord_eq _ addr, rfl, rfl⟩, ?_⟩
  simp only [List.forall_mem_cons]
  refine ⟨?jnz, ?jz, ?jnc, ?jc, ?jpo, ?jpe, ?jp, ?jm, List.forall_mem_nil _⟩
  case jnz => exact runsAs_of_jumpIf .nz rfl rfl rfl
  case jz => exact runsAs_of_jumpIf .z rfl rfl rfl
  case jnc => exact runsAs_of_jumpIf .nc rfl rfl rfl
  case jc => exact runsAs_of_jumpIf .c rfl rfl rfl
  case jpo => exact runsAs_of_jumpIf .po rfl rfl rfl
  case jpe => exact runsAs_of_jumpIf .pe rfl rfl rfl
  case jp => exact runsAs_of_jumpIf .p rfl rfl rfl
  case jm => exact runsAs_of_jumpIf .m rfl rfl rfl

/-- Settles O48: every row of the table is the conditional call on its condition. -/
theorem calls : Obligations.Calls := by
  intro addr s
  refine ⟨⟨withWord_eq _ addr, rfl, rfl⟩, ?_⟩
  simp only [List.forall_mem_cons]
  refine ⟨?cnz, ?cz, ?cnc, ?cc, ?cpo, ?cpe, ?cp, ?cm, List.forall_mem_nil _⟩
  case cnz => exact runsAs_of_callIf .nz rfl rfl rfl
  case cz => exact runsAs_of_callIf .z rfl rfl rfl
  case cnc => exact runsAs_of_callIf .nc rfl rfl rfl
  case cc => exact runsAs_of_callIf .c rfl rfl rfl
  case cpo => exact runsAs_of_callIf .po rfl rfl rfl
  case cpe => exact runsAs_of_callIf .pe rfl rfl rfl
  case cp => exact runsAs_of_callIf .p rfl rfl rfl
  case cm => exact runsAs_of_callIf .m rfl rfl rfl

/-- Settles O49: every row of the table is the conditional return on its condition. -/
theorem returns : Obligations.Returns := by
  intro s
  refine ⟨⟨rfl, rfl, rfl⟩, ?_⟩
  simp only [List.forall_mem_cons]
  refine ⟨?rnz, ?rz, ?rnc, ?rc, ?rpo, ?rpe, ?rp, ?rm, List.forall_mem_nil _⟩
  case rnz => exact runsAs_of_returnIf .nz rfl rfl rfl
  case rz => exact runsAs_of_returnIf .z rfl rfl rfl
  case rnc => exact runsAs_of_returnIf .nc rfl rfl rfl
  case rc => exact runsAs_of_returnIf .c rfl rfl rfl
  case rpo => exact runsAs_of_returnIf .po rfl rfl rfl
  case rpe => exact runsAs_of_returnIf .pe rfl rfl rfl
  case rp => exact runsAs_of_returnIf .p rfl rfl rfl
  case rm => exact runsAs_of_returnIf .m rfl rfl rfl

/-- Settles O50: `npc` of a one-byte instruction is the pushed word, PC when the slot supplied the opcode and PC + 1 when it was
fetched. -/
theorem restart : Obligations.Restart := by
  intro n s
  have npc : s.npc 1 = if s.ack then s.pc else s.pc + 1 := rfl
  refine ⟨encode_rst n, ?_, rfl⟩
  rw [← npc]
  rfl

end Sys2Proof.Machine
end

section
/-! IN and OUT (46_io.md): the next state of each, then the family's statement. -/

namespace Sys2Proof.Machine

/-- IN from a present latch: A alone is loaded, the latch stays (R240). -/
theorem exec_inp_of_present {s : State} {port v : Byte} (present : s.ioIn.get port = some v) :
    exec (.inp port) s = .next { s with a := v, pc := s.npc 2 } := by
  change Host.Outcome.next ({ s with a := (s.ioIn.get port).getD s.a }.advance 2) = _
  rw [present]
  rfl

/-- IN from an absent latch: A stays (R240). -/
theorem exec_inp_of_absent {s : State} {port : Byte} (absent : s.ioIn.get port = none) :
    exec (.inp port) s = .next { s with pc := s.npc 2 } := by
  change Host.Outcome.next ({ s with a := (s.ioIn.get port).getD s.a }.advance 2) = _
  rw [absent]
  rfl

/-- OUT sets its port's output latch to A (R241). -/
theorem exec_outp (port : Byte) (s : State) :
    exec (.outp port) s = .next { s with ioOut := s.ioOut.set port s.a, pc := s.npc 2 } := rfl

/-- Settles O55: IN by whether its latch is present, OUT by its next state, and the other latches by the read after a latch write. -/
theorem portTransfer : Obligations.PortTransfer := by
  intro port s
  refine ⟨⟨rfl, ?inp, rfl⟩, ⟨rfl, exec_outp port s, rfl⟩, fun q => ?latch⟩
  case inp =>
    cases latch : s.ioIn.get port with
    | some v => exact exec_inp_of_present latch
    | none => exact exec_inp_of_absent latch
  case latch => exact (s.ioOut.get_set port q s.a).trans (if_congr eq_comm rfl rfl)

end Sys2Proof.Machine
end

section
/-! The disassembler and the executor agree on the instruction boundary (48_disassembler.md R282). -/

namespace Sys2Proof.Machine

/-- The decoded instruction is as long as its opcode says, whatever its operand bytes (R83). -/
theorem length_decodeOp (op b1 b2 : Byte) : (decodeOp op b1 b2).length = opLength op := by
  induction op using bitvec_cases with
  | h k below => interval_cases k <;> rfl

/-- FETCH and DECODE answer an instruction as long as the opcode at PC says (R105). -/
theorem length_fetchInstr (s : State) : (fetchInstr s).length = opLength (s.readByte s.pc) :=
  length_decodeOp _ _ _

/-- Whether a transfer is taken depends on the flags alone (R192 to R199). -/
theorem setsPc_congr {s t : State} (h : t.flags = s.flags) (i : Instr) : setsPc i t = setsPc i s := by
  cases i <;> simp only [setsPc, h]

/-- `npc` of a step that fetches is the address after the instruction's bytes (R106): the wire `ack` is 0. -/
theorem State.npc_beginFetched (s : State) (len : Nat) : s.beginFetched.npc len = s.pc + BitVec.ofNat 16 len := by
  simp [State.npc]

/-- The default `PC <- npc` (R109): a conditional transfer not taken goes there by its own rule, and every other instruction that
is no transfer advances a state whose PC and `ack` it has not touched. -/
theorem pc_of_exec_of_not_setsPc {i : Instr} {s t : State} (run : exec i s = .next t) (stays : setsPc i s = false) :
    t.pc = s.npc i.length := by
  cases i with
  | jmp | jmpUndoc | call | callUndoc | ret | retUndoc | rst | pchl | hlt => cases stays
  | jnz | jz | jnc | jc | jpo | jpe | jp | jm | cnz | cz | cnc | cc | cpo | cpe | cp | cm
  | rnz | rz | rnc | rc | rpo | rpe | rp | rm =>
    cases run
    simp only [setsPc] at stays
    simp [stays, Instr.length]
  | _ =>
    cases run
    rw [State.advance_pc]
    exact State.npc_congr (by simp) (by simp) _

/-- Settles O32: the step runs the fetched instruction, which moves PC to `npc` by its length, and the disassembler gives its
opcode that same length. -/
theorem pcAdvancesByDisassembledLength : Obligations.PcAdvancesByDisassembledLength := by
  intro s b1 b2 notAcked notHalted stays
  have fetches : s.acknowledges = false := by simpa [State.acknowledges] using notAcked
  have staysBegun : setsPc (fetchInstr s) s.beginFetched = false := (setsPc_congr s.beginFetched_flags _).trans stays
  obtain ⟨t, run⟩ := exec_next (fetchInstr s) s.beginFetched
  refine ⟨{ t with ack := false }, ?next, ?pc⟩
  case next => rw [step_of_fetch fetches notHalted, runFetched, run, retire_next]
  case pc =>
    calc t.pc = s.beginFetched.npc (fetchInstr s).length := pc_of_exec_of_not_setsPc run staysBegun
      _ = s.pc + BitVec.ofNat 16 (fetchInstr s).length := s.npc_beginFetched _
      _ = s.pc + BitVec.ofNat 16 (opLength (s.readByte s.pc)) := by rw [length_fetchInstr]

end Sys2Proof.Machine
end

section
/-! Decoder and encoder (30_encoding.md): each undoes the other, and which bytes a length asks for. -/

namespace Sys2Proof.Machine

/-! ## What the decoder reads -/

/-- An opcode is one, two or three bytes long (R83). -/
theorem opLength_cases (op : Byte) : opLength op = 1 ∨ opLength op = 2 ∨ opLength op = 3 := by
  unfold opLength opLengthWith
  split
  · exact .inr (.inr rfl)
  · split
    · exact .inr (.inr rfl)
    · split
      · exact .inr (.inl rfl)
      · exact .inl rfl

/-- Bytes beyond the opcode's length play no part (R105): the decoder may as well be shown 0 there. -/
theorem decodeOp_byLength (op b1 b2 : Byte) :
    decodeOp op b1 b2 =
      if opLength op = 3 then decodeOp op b1 b2 else if opLength op = 2 then decodeOp op b1 0 else decodeOp op 0 0 := by
  induction op using bitvec_cases with
  | h k below => interval_cases k <;> rfl

theorem decodeOp_of_length_one {op : Byte} (one : opLength op = 1) (b1 b2 : Byte) : decodeOp op b1 b2 = decodeOp op 0 0 := by
  rw [decodeOp_byLength, one]
  rfl

theorem decodeOp_of_length_two {op : Byte} (two : opLength op = 2) (b1 b2 : Byte) : decodeOp op b1 b2 = decodeOp op b1 0 := by
  rw [decodeOp_byLength, two]
  rfl

/-- Shown one instruction's bytes and any bytes after them, the decoder takes the former and leaves the latter (R70). -/
theorem decode_take_append (op b1 b2 : Byte) (rest : List Byte) :
    decode ([op, b1, b2].take (opLength op) ++ rest) = .ok (decodeOp op b1 b2, rest) := by
  obtain len | len | len := opLength_cases op
  · rw [decodeOp_of_length_one len]
    simp [decode, len]
  · rw [decodeOp_of_length_two len]
    simp [decode, len]
  · simp [decode, len]

/-! ## Encoding what was decoded -/

theorem wellFormed_decodeOp (op b1 b2 : Byte) : (decodeOp op b1 b2).wellFormed = true := by
  induction op using bitvec_cases with
  | h k below => interval_cases k <;> rfl

theorem withWord_joinBytes (op b1 b2 : Byte) : withWord op (joinBytes b2 b1) = [op, b1, b2] := by
  rw [withWord, loByte_joinBytes, hiByte_joinBytes]

/-- The encoder writes a three-byte instruction by its 16-bit operand and a shorter one byte by byte. -/
theorem encode_decodeOp_byLength (op b1 b2 : Byte) :
    encode (decodeOp op b1 b2) =
      if opLength op = 3 then withWord op (joinBytes b2 b1) else [op, b1, b2].take (opLength op) := by
  induction op using bitvec_cases with
  | h k below => interval_cases k <;> rfl

/-- The bytes of a decoded instruction are the bytes read. -/
theorem encode_decodeOp (op b1 b2 : Byte) : encode (decodeOp op b1 b2) = [op, b1, b2].take (opLength op) := by
  rw [encode_decodeOp_byLength, withWord_joinBytes]
  split
  next three => rw [three]; rfl
  next => rfl

/-! ## Decoding what was encoded -/

/-- Byte `k` of an instruction's encoding, 0 where it is shorter. -/
def encodedByte (i : Instr) (k : Nat) : Byte := (encode i).getD k 0

/-- A word operand is read back from the two bytes that spell it (R75). -/
theorem decodeOp_of_word {op : Byte} {f : Word → Instr} (map : ∀ b1 b2, decodeOp op b1 b2 = f (joinBytes b2 b1))
    (w : Word) : decodeOp op (loByte w) (hiByte w) = f w := by
  rw [map, joinBytes_hi_lo]

/-- The opcode map has every well-formed instruction at its own encoding, by the format of its operands (R71): a word, an operand
code, a byte, a number, or none. -/
theorem decodeOp_encodedByte (i : Instr) (wf : i.wellFormed = true) :
    decodeOp (encodedByte i 0) (encodedByte i 1) (encodedByte i 2) = i := by
  unfold encodedByte
  cases i with
  | lda w | sta w | lhld w | shld w | jmp w | jnz w | jz w | jnc w | jc w | jpo w | jpe w | jp w | jm w
  | call w | cnz w | cz w | cnc w | cc w | cpo w | cpe w | cp w | cm w | jmpUndoc w =>
    simp only [encode, withWord, List.getD_cons_zero, List.getD_cons_succ]
    exact decodeOp_of_word (fun _ _ => rfl) w
  | lxi rp w =>
    simp only [encode, withWord, List.getD_cons_zero, List.getD_cons_succ]
    cases rp <;> exact decodeOp_of_word (fun _ _ => rfl) w
  | callUndoc k w =>
    have notCall : ∀ k : BitVec 2, (k != 0) = true → k = 1 ∨ k = 2 ∨ k = 3 := by decide
    simp only [encode, withWord, List.getD_cons_zero, List.getD_cons_succ]
    obtain rfl | rfl | rfl := notCall k wf <;> exact decodeOp_of_word (fun _ _ => rfl) w
  | mov dst src =>
    cases dst <;> cases src
    case m.m => cases wf
    all_goals rfl
  | add r | adc r | sub r | sbb r | ana r | xra r | ora r | cmp r | inr r | dcr r => cases r <;> rfl
  | dad rp | inx rp | dcx rp | push rp | pop rp | ldax rp | stax rp => cases rp <;> rfl
  | mvi dst imm =>
    simp only [encode, List.getD_cons_zero, List.getD_cons_succ, List.getD_nil]
    cases dst <;> rfl
  | adi | aci | sui | sbi | ani | xri | ori | cpi | inp | outp =>
    simp only [encode, List.getD_cons_zero, List.getD_cons_succ, List.getD_nil]
    rfl
  | rst n => revert n; decide
  | nopUndoc k => revert k; decide
  | _ => rfl

/-! ## The length and the parameter -/

/-- Counting below `w * m` row by row, `w` numbers to a row. -/
theorem countP_range_mul (p : Nat → Bool) (w m : Nat) :
    (List.range (w * m)).countP p =
      ((List.range m).map fun row => (List.range w).countP fun column => p (w * row + column)).sum := by
  induction m with
  | zero => rfl
  | succ m ih =>
    rw [Nat.mul_succ, List.range_add, List.countP_append, ih, List.range_succ, List.map_append, List.sum_append,
      List.countP_map, List.map_singleton, List.sum_singleton]
    rfl

/-- The opcodes of one length, counted over the opcode map's sixteen rows. -/
theorem countP_opLength (len : Nat) :
    (List.range 256).countP (fun n => opLength (BitVec.ofNat 8 n) == len) =
      ((List.range 16).map fun row =>
        (List.range 16).countP fun column => opLength (BitVec.ofNat 8 (16 * row + column)) == len).sum :=
  countP_range_mul _ 16 16

/-- The parameter gives five opcodes to NOP and leaves every other one as it is (R86). -/
theorem decodeOpWith_true (op b1 b2 : Byte) :
    decodeOpWith true op b1 b2 =
      if op ∈ ([0xCB, 0xD9, 0xDD, 0xED, 0xFD] : List Byte) then .nop else decodeOpWith false op b1 b2 := by
  induction op using bitvec_cases with
  | h k below => interval_cases k <;> rfl

theorem opLengthWith_true (op : Byte) :
    opLengthWith true op = if op ∈ ([0xCB, 0xD9, 0xDD, 0xED, 0xFD] : List Byte) then 1 else opLengthWith false op := by
  induction op using bitvec_cases with
  | h k below => interval_cases k <;> rfl

/-! ## The obligations -/

/-- Settles O1: a well-formed instruction is what its own bytes decode to, and the decoder reads exactly those bytes. -/
theorem decodeOfEncode : Obligations.DecodeOfEncode := by
  intro i rest wf
  have decoded := decodeOp_encodedByte i wf
  have bytes := encode_decodeOp (encodedByte i 0) (encodedByte i 1) (encodedByte i 2)
  have read := decode_take_append (encodedByte i 0) (encodedByte i 1) (encodedByte i 2) rest
  rwa [← bytes, decoded] at read

/-- Settles O2: each opcode in turn, with any operand bytes. -/
theorem encodeOfDecode : Obligations.EncodeOfDecode := fun op b1 b2 =>
  ⟨wellFormed_decodeOp op b1 b2, encode_decodeOp op b1 b2⟩

/-- Settles O3: the decoder evaluated on each word. -/
theorem mapWordsDecode : Obligations.MapWordsDecode := by
  unfold Obligations.MapWordsDecode
  decide

/-- Settles O4: each opcode's length is its decoded instruction's, and the three counts go over the opcode map row by row. -/
theorem lengthFromOpcode : Obligations.LengthFromOpcode := by
  refine ⟨length_decodeOp, ?three, ?two, ?one⟩
  case three => exact (countP_opLength 3).trans (by decide)
  case two => exact (countP_opLength 2).trans (by decide)
  case one => exact (countP_opLength 1).trans (by decide)

/-- Settles O5: the five opcodes listed, and every other one. -/
theorem undocParameterChangesFive : Obligations.UndocParameterChangesFive := by
  intro op b1 b2
  rw [decodeOpWith_true, opLengthWith_true]
  exact ⟨fun listed => ⟨if_pos listed, if_pos listed⟩, fun unlisted => ⟨if_neg unlisted, if_neg unlisted⟩⟩

end Sys2Proof.Machine
end

section
/-! What an instruction stores (20_memory.md section 2): only to its own addresses, and never inside the read-only window. -/

namespace Sys2Proof.Machine

/-! ## Stores -/

/-- `m` is the memory of `s` after stores to addresses among `xs` that lie outside the window of `s`. -/
inductive State.Stored (s : State) (xs : List Word) : Memory → Prop
  | start : s.Stored xs s.mem
  | store {m : Memory} (before : s.Stored xs m) (x : Word) (v : Byte) (listed : x ∈ xs) (writable : s.inRom x = false) :
      s.Stored xs (m.write x v)

theorem State.Stored.of_mem_eq {s : State} {xs : List Word} {m : Memory} (same : m = s.mem) : s.Stored xs m :=
  same ▸ .start

theorem State.Stored.read_of_not_mem {s : State} {xs : List Word} {m : Memory} (stored : s.Stored xs m) {y : Word}
    (unlisted : y ∉ xs) : m.read y = s.mem.read y := by
  induction stored with
  | start => rfl
  | store _ x v listed _ ih =>
    have other : x ≠ y := fun same => unlisted (same ▸ listed)
    rw [Memory.read_write, if_neg other, ih]

theorem State.Stored.read_of_inRom {s : State} {xs : List Word} {m : Memory} (stored : s.Stored xs m) {y : Word}
    (inside : s.inRom y = true) : m.read y = s.mem.read y := by
  induction stored with
  | start => rfl
  | store _ x v _ writable ih =>
    have other : x ≠ y := by
      rintro rfl
      rw [inside] at writable
      cases writable
    rw [Memory.read_write, if_neg other, ih]

theorem State.Stored.wf {s : State} {xs : List Word} {m : Memory} (stored : s.Stored xs m) (canonical : Memory.wf s.mem) :
    Memory.wf m := by
  induction stored with
  | start => exact canonical
  | store _ x v _ _ ih => exact Memory.write_wf ih x v

/-! ## The operations that store -/

/-- One more byte write, on a state with the same window. -/
theorem State.Stored.writeByte {s t : State} {xs : List Word} (stored : s.Stored xs t.mem) (rom : t.rom = s.rom) {x : Word}
    (listed : x ∈ xs) (v : Byte) : s.Stored xs (t.writeByte x v).mem := by
  rw [State.writeByte_mem, State.inRom_congr rom]
  split
  next => exact stored
  next outside => exact .store stored x v listed (by simpa using outside)

theorem State.stored_writeByte (s : State) (x : Word) (v : Byte) : s.Stored [x] (s.writeByte x v).mem :=
  State.Stored.start.writeByte rfl (List.mem_singleton.mpr rfl) v

theorem State.stored_writeWord (s : State) (x v : Word) : s.Stored [x, x + 1] (s.writeWord x v).mem :=
  (State.Stored.start.writeByte rfl (by simp) _).writeByte (s.writeByte_rom x _) (by simp) _

theorem State.stored_push16 (s : State) (v : Word) : s.Stored s.pushSlot (s.push16 v).mem := by
  have lowered : s.Stored s.pushSlot ({ s with sp := s.sp - 2 } : State).mem := .start
  have high := lowered.writeByte rfl (x := s.sp - 2 + 1) (by simp [State.pushSlot]) (hiByte v)
  exact high.writeByte (State.writeByte_rom _ _ _) (by simp [State.pushSlot]) (loByte v)

theorem State.stored_callIf (s : State) (cond : Cond) (addr : Word) :
    s.Stored (s.pushSlotIf cond) (s.callIf cond addr).mem := by
  rw [State.callIf_mem, State.pushSlotIf]
  split
  next => exact s.stored_push16 _
  next => exact .start

/-- Writing an operand stores at HL, or nothing. -/
theorem State.stored_setR8 (s : State) (r : R8) (v : Byte) : s.Stored (s.operandSlot r) (s.setR8 r v).mem := by
  rw [State.setR8_mem, State.operandSlot]
  split
  next => exact s.stored_writeByte s.hl v
  next => exact .start

theorem State.stored_setCounted (s : State) (dst : R8) (r : Byte × Flags) :
    s.Stored (s.operandSlot dst) (s.setCounted dst r).mem := by
  rw [State.setCounted_mem, ← State.setR8_mem]
  exact s.stored_setR8 dst r.1

/-! ## The instructions -/

/-- Memory after any instruction: what it was, but for stores to the instruction's own addresses outside the window. -/
theorem stored_of_exec {i : Instr} {s t : State} (run : exec i s = .next t) : s.Stored (storedBytes i s) t.mem := by
  cases i with
  | mov dst | mvi dst => cases run; exact s.stored_setR8 dst _
  | inr dst | dcr dst => cases run; exact s.stored_setCounted dst _
  | sta | stax => cases run; exact s.stored_writeByte _ _
  | shld => cases run; exact s.stored_writeWord _ _
  | xthl =>
    cases run
    rw [State.advance_mem, State.setRP_mem]
    exact s.stored_writeWord _ _
  | call | callUndoc | rst | push => cases run; exact s.stored_push16 _
  | cnz | cz | cnc | cc | cpo | cpe | cp | cm => cases run; exact s.stored_callIf _ _
  | _ => cases run; exact .of_mem_eq (by simp)

theorem readByte_of_exec_of_not_stored {i : Instr} {s t : State} (run : exec i s = .next t) {x : Word}
    (unlisted : x ∉ storedBytes i s) : t.readByte x = s.readByte x :=
  (stored_of_exec run).read_of_not_mem unlisted

theorem readByte_of_exec_of_inRom {i : Instr} {s t : State} (run : exec i s = .next t) {x : Word}
    (inside : s.inRom x = true) : t.readByte x = s.readByte x :=
  (stored_of_exec run).read_of_inRom inside

/-- Settles O15: every store of an instruction is to one of its listed addresses. -/
theorem memoryFrame : Obligations.MemoryFrame := fun _ _ _ _ run unlisted => readByte_of_exec_of_not_stored run unlisted

end Sys2Proof.Machine
end

section
/-! Frames (92_eei_decisions.md D23): what each instruction leaves unchanged in the registers, the flags, SP and the control
state. -/

namespace Sys2Proof.Machine

/-! ## Control state -/

/-- What no instruction writes: the interrupt slot, the window, the input latches and the wire `ack`. -/
theorem hostState_of_exec {i : Instr} {s t : State} (run : exec i s = .next t) :
    t.intPending = s.intPending ∧ t.intOpcode = s.intOpcode ∧ t.rom = s.rom ∧ t.ioIn = s.ioIn ∧ t.ack = s.ack := by
  cases i <;> cases run <;> simp

theorem inte_of_exec {i : Instr} {s t : State} (run : exec i s = .next t) (other : i ≠ .di) : t.inte = s.inte := by
  cases i with
  | di => exact absurd rfl other
  | _ => cases run; simp

theorem eiPending_of_exec {i : Instr} {s t : State} (run : exec i s = .next t) (notDi : i ≠ .di) (notEi : i ≠ .ei) :
    t.eiPending = s.eiPending := by
  cases i with
  | di => exact absurd rfl notDi
  | ei => exact absurd rfl notEi
  | _ => cases run; simp

theorem halted_of_exec {i : Instr} {s t : State} (run : exec i s = .next t) (other : i ≠ .hlt) : t.halted = s.halted := by
  cases i with
  | hlt => exact absurd rfl other
  | _ => cases run; simp

theorem ioOut_get_of_exec {i : Instr} {s t : State} (run : exec i s = .next t) {port : Byte} (other : i ≠ .outp port) :
    t.ioOut.get port = s.ioOut.get port := by
  cases i with
  | outp written =>
    have apart : written ≠ port := fun same => other (congrArg Instr.outp same)
    cases run
    exact (Latches.get_set _ _ _ _).trans (if_neg apart)
  | _ => cases run; simp

/-! ## Registers, flags and SP -/

/-- Each register but the instruction's own is as before. -/
theorem registers_of_exec {i : Instr} {s t : State} (run : exec i s = .next t) :
    (R8.b ∉ writtenRegs i → t.b = s.b) ∧ (R8.c ∉ writtenRegs i → t.c = s.c) ∧ (R8.d ∉ writtenRegs i → t.d = s.d) ∧
    (R8.e ∉ writtenRegs i → t.e = s.e) ∧ (R8.h ∉ writtenRegs i → t.h = s.h) ∧ (R8.l ∉ writtenRegs i → t.l = s.l) ∧
    (R8.a ∉ writtenRegs i → t.a = s.a) := by
  cases i with
  | mov dst | mvi dst | inr dst | dcr dst => cases run; cases dst <;> simp [writtenRegs]
  | lxi rp | inx rp | dcx rp => cases run; cases rp <;> simp [writtenRegs, rpRegs]
  | pop rp => cases run; cases rp <;> simp [writtenRegs, stackRPRegs]
  | _ => cases run; simp [writtenRegs]

/-- Each flag but those the instruction's rule lists is as before (R169). -/
theorem flags_of_exec {i : Instr} {s t : State} (run : exec i s = .next t) :
    ((writtenFlags i).s = false → t.flags.s = s.flags.s) ∧ ((writtenFlags i).z = false → t.flags.z = s.flags.z) ∧
    ((writtenFlags i).a = false → t.flags.a = s.flags.a) ∧ ((writtenFlags i).p = false → t.flags.p = s.flags.p) ∧
    ((writtenFlags i).c = false → t.flags.c = s.flags.c) := by
  cases i with
  | pop rp => cases run; cases rp <;> simp [writtenFlags, allFlags]
  | _ => cases run; simp [writtenFlags, allFlags, noFlags]

theorem State.callIf_sp_eq_add (s : State) (cond : Cond) (addr : Word) :
    (s.callIf cond addr).sp = s.sp + if condHolds s.flags cond then -2 else 0 := by
  rw [State.callIf_sp]
  split
  next => exact BitVec.sub_eq_add_neg s.sp 2
  next => exact (BitVec.add_zero s.sp).symm

theorem State.returnIf_sp_eq_add (s : State) (cond : Cond) :
    (s.returnIf cond).sp = s.sp + if condHolds s.flags cond then 2 else 0 := by
  rw [State.returnIf_sp]
  split
  next => rfl
  next => exact (BitVec.add_zero s.sp).symm

/-- SP moves by the instruction's own amount (R222), unless the instruction gives SP a value. -/
theorem sp_of_exec {i : Instr} {s t : State} (run : exec i s = .next t) (fixed : writesSpFreely i = false) :
    t.sp = s.sp + spDelta i s := by
  cases i with
  | sphl => cases fixed
  | lxi rp | inx rp | dcx rp =>
    cases run
    cases rp
    case sp => cases fixed
    all_goals simp [spDelta]
  | call | callUndoc | rst | push => cases run; simp [spDelta, BitVec.sub_eq_add_neg]
  | cnz | cz | cnc | cc | cpo | cpe | cp | cm => cases run; exact s.callIf_sp_eq_add _ _
  | rnz | rz | rnc | rc | rpo | rpe | rp | rm => cases run; exact s.returnIf_sp_eq_add _
  | _ => cases run; simp [spDelta]

/-! ## The obligations -/

/-- Settles O16: each of the seven registers in turn. -/
theorem registerFrame : Obligations.RegisterFrame := by
  intro i s t r run notM kept
  obtain ⟨b, c, d, e, h, l, a⟩ := registers_of_exec run
  cases r
  case m => exact absurd rfl notM
  case b => exact b kept
  case c => exact c kept
  case d => exact d kept
  case e => exact e kept
  case h => exact h kept
  case l => exact l kept
  case a => exact a kept

/-- Settles O17: by the flags each instruction's rule writes. -/
theorem flagFrame : Obligations.FlagFrame := fun _ _ _ run => flags_of_exec run

/-- Settles O18: each field by the one instruction that writes it, or by none. -/
theorem controlFrame : Obligations.ControlFrame := by
  intro i s t run
  obtain ⟨pending, opcode, rom, ioIn, ack⟩ := hostState_of_exec run
  exact ⟨inte_of_exec run, eiPending_of_exec run, halted_of_exec run, pending, opcode, rom, ioIn, ack,
    fun _ => ioOut_get_of_exec run⟩

/-- Settles O19: by what each instruction adds to SP. -/
theorem stackPointerFrame : Obligations.StackPointerFrame := fun _ _ _ => sp_of_exec

/-- Settles O20: by the instruction's own PC rule. -/
theorem defaultPcUpdate : Obligations.DefaultPcUpdate := fun _ _ _ => pc_of_exec_of_not_setsPc

end Sys2Proof.Machine
end

section
/-! The invariant of states between steps, and the read-only window along a run (10_state.md section 4; 20_memory.md
section 2). -/

namespace Sys2Proof.Machine

/-! ## What a step executes -/

/-- A step idles, or executes one instruction on a state that differs from its start in the control state alone (R101). -/
theorem step_executes {s u : State} (stepped : step s = .next u) :
    u = s ∨ ∃ i b t, exec i b = .next t ∧ u = { t with ack := false } ∧
      b.mem = s.mem ∧ b.rom = s.rom ∧ b.intOpcode = s.intOpcode ∧ b.ioIn = s.ioIn ∧ b.ioOut = s.ioOut := by
  obtain ⟨-, -, t, run, after⟩ | ⟨-, -, idle⟩ | ⟨-, -, t, run, after⟩ := step_cases stepped
  · exact .inr ⟨_, _, t, run, after, rfl, rfl, rfl, rfl, rfl⟩
  · exact .inl idle
  · exact .inr ⟨_, _, t, run, after, by simp⟩

theorem step_keeps_host_state {s u : State} (stepped : step s = .next u) :
    u.intOpcode = s.intOpcode ∧ u.rom = s.rom ∧ u.ioIn = s.ioIn := by
  obtain rfl | ⟨i, b, t, run, rfl, -, romBegun, opcodeBegun, inBegun, -⟩ := step_executes stepped
  · exact ⟨rfl, rfl, rfl⟩
  · obtain ⟨-, opcode, rom, ioIn, -⟩ := hostState_of_exec run
    exact ⟨opcode.trans opcodeBegun, rom.trans romBegun, ioIn.trans inBegun⟩

/-! ## The window -/

/-- No step changes a byte inside the window. -/
theorem readByte_of_step_of_inRom {s u : State} (stepped : step s = .next u) {x : Word} (inside : s.inRom x = true) :
    u.readByte x = s.readByte x := by
  obtain rfl | ⟨i, b, t, run, rfl, mem, rom, -⟩ := step_executes stepped
  · rfl
  · have insideBegun : b.inRom x = true := (State.inRom_congr rom x).trans inside
    exact (readByte_of_exec_of_inRom run insideBegun).trans (State.readByte_congr mem x)

/-- The first step of a run that answers a next state, of any machine. -/
theorem run_succ_cases {M : Host.Core} {k : Nat} {s t : M.State} (ran : M.run (k + 1) s = .next t) :
    ∃ u, M.step s = .next u ∧ M.run k u = .next t := by
  rw [Host.Core.run] at ran
  split at ran
  next u first => exact ⟨u, first, ran⟩
  next => cases ran
  next => cases ran

/-- Settles O14: a step keeps the window and the bytes inside it, and so, by induction, does a run. -/
theorem windowIsReadOnly : Obligations.WindowIsReadOnly := by
  intro k
  induction k with
  | zero =>
    rintro s t ⟨⟩
    exact ⟨rfl, fun _ _ => rfl⟩
  | succ k ih =>
    intro s t ran
    obtain ⟨u, stepped, rest⟩ := run_succ_cases ran
    obtain ⟨-, rom, -⟩ := step_keeps_host_state stepped
    obtain ⟨romRest, bytesRest⟩ := ih u t rest
    refine ⟨romRest.trans rom, fun x inside => ?_⟩
    have insideNext : u.inRom x = true := (State.inRom_congr rom x).trans inside
    exact (bytesRest x insideNext).trans (readByte_of_step_of_inRom stepped inside)

/-! ## The invariant -/

/-- The output latches stay canonical: OUT sets one, no other instruction writes any. -/
theorem ioOut_wf_of_exec {i : Instr} {s t : State} (run : exec i s = .next t) (canonical : Latches.wf s.ioOut) :
    Latches.wf t.ioOut := by
  cases i with
  | outp port => cases run; exact Latches.set_wf canonical port s.a
  | _ =>
    cases run
    simpa using canonical

/-- Settles O21: the instruction's stores, its output latch and the fields it never writes, each canonical as before. -/
theorem stepKeepsStateInv : Obligations.StepKeepsStateInv := by
  intro s u inv stepped
  obtain rfl | ⟨i, b, t, run, rfl, memBegun, romBegun, -, inBegun, outBegun⟩ := step_executes stepped
  · exact inv
  · obtain ⟨mem, ioIn, ioOut, rom, -⟩ := inv
    obtain ⟨-, -, romKept, inKept, -⟩ := hostState_of_exec run
    refine ⟨?mem, ?ioIn, ?ioOut, ?rom, rfl⟩
    case mem => exact (stored_of_exec run).wf (memBegun ▸ mem)
    case ioIn => exact (inKept.trans inBegun) ▸ ioIn
    case ioOut =>
      have out : Latches.wf t.ioOut := ioOut_wf_of_exec run (outBegun ▸ ioOut)
      exact out
    case rom => exact fun w set => rom w ((romKept.trans romBegun) ▸ set)

/-- Settles O22: reset is a closed state. -/
theorem resetMeetsStateInv : Obligations.ResetMeetsStateInv := by
  unfold Obligations.ResetMeetsStateInv
  decide

/-! ## Host operations -/

theorem State.Inv.writeByte {s : State} (inv : s.Inv) (x : Word) (v : Byte) : (s.writeByte x v).Inv := by
  obtain ⟨mem, ioIn, ioOut, rom, ack⟩ := inv
  refine ⟨State.writeByte_wf mem x v, ?_⟩
  rw [State.romOrdered, State.writeByte_ioIn, State.writeByte_ioOut, State.writeByte_rom, State.writeByte_ack]
  exact ⟨ioIn, ioOut, rom, ack⟩

theorem State.Inv.setR8 {s : State} (inv : s.Inv) (r : R8) (v : Byte) : (s.setR8 r v).Inv := by
  cases r with
  | m => exact inv.writeByte s.hl v
  | _ => exact inv

theorem State.Inv.setRP {s : State} (inv : s.Inv) (rp : RP) (v : Word) : (s.setRP rp v).Inv := by
  cases rp <;> exact inv

theorem State.Inv.hostSetRomspace {s t : State} (inv : s.Inv) {lo hi : Word} (set : hostSetRomspace s lo hi = .next t) :
    t.Inv := by
  obtain ⟨mem, ioIn, ioOut, -, ack⟩ := inv
  unfold Machine.hostSetRomspace at set
  split at set
  next => cases set
  next ordered =>
    cases set
    refine ⟨mem, ioIn, ioOut, ?_, ack⟩
    rintro w ⟨⟩
    exact BitVec.not_lt.mp ordered

/-- Settles O23: memory and latches by their canonical writes, the window by its check; the other operations write no field that
the invariant reads. -/
theorem hostKeepsStateInv : Obligations.HostKeepsStateInv := by
  intro s inv x v p n r rp f z bytes
  have ⟨mem, ioIn, ioOut, rom, ack⟩ := inv
  refine ⟨?load, inv.writeByte x n, (inv.writeByte x _).writeByte (x + 1) _, fun _ => inv.hostSetRomspace, ?clear, inv.setR8 r n,
    inv.setRP rp v, inv, inv, inv, inv, inv, inv, inv, ?setIn, ?clearIn, ?setOut, ?clearOut⟩
  case load => exact ⟨Memory.load_wf mem x bytes, ioIn, ioOut, rom, ack⟩
  case clear => exact ⟨mem, ioIn, ioOut, by rintro w ⟨⟩, ack⟩
  case setIn => exact ⟨mem, Latches.set_wf ioIn p n, ioOut, rom, ack⟩
  case clearIn => exact ⟨mem, Latches.clear_wf ioIn p, ioOut, rom, ack⟩
  case setOut => exact ⟨mem, ioIn, Latches.set_wf ioOut p n, rom, ack⟩
  case clearOut => exact ⟨mem, ioIn, Latches.clear_wf ioOut p, rom, ack⟩

end Sys2Proof.Machine
end

section
/-! The step (40_step_fsm.md; 60_exceptions.md section 4): fetch, acknowledge, idle and refusal, each with its count. -/

namespace Sys2Proof.Machine

/-! ## The start of a step -/

theorem State.acknowledges_eq_true {s : State} : s.acknowledges = true ↔ s.inte = true ∧ s.intPending = true := by
  simp [State.acknowledges]

theorem State.acknowledges_eq_false {s : State} : s.acknowledges = false ↔ ¬(s.inte = true ∧ s.intPending = true) := by
  simp [State.acknowledges]

theorem State.beginFetched_eq (s : State) :
    s.beginFetched = { s with inte := s.inte || s.eiPending, eiPending := false, ack := false } :=
  State.promoteEi_eq _

/-- Fetching only the bytes the length asks for decodes as the three bytes at PC do (R105). -/
theorem fetchInstr_eq (s : State) :
    fetchInstr s = decodeOp (s.readByte s.pc) (s.readByte (s.pc + 1)) (s.readByte (s.pc + 2)) := by
  obtain len | len | len := opLength_cases (s.readByte s.pc)
  · rw [decodeOp_of_length_one len, fetchInstr, len]
    rfl
  · rw [decodeOp_of_length_two len, fetchInstr, len]
    rfl
  · rw [fetchInstr, len]
    rfl

/-- The decoder shown three bytes answers the instruction they begin with. -/
theorem decode_three (op b1 b2 : Byte) :
    decode [op, b1, b2] = .ok (decodeOp op b1 b2, [op, b1, b2].drop (opLength op)) := by
  have read := decode_take_append op b1 b2 ([op, b1, b2].drop (opLength op))
  rwa [List.take_append_drop] at read

/-! ## The three kinds of step -/

/-- A step that fetches answers what the fetched instruction answers. -/
theorem step_of_fetched {s t : State} (fetches : s.acknowledges = false) (awake : s.halted = false)
    (run : exec (fetchInstr s) s.beginFetched = .next t) : step s = .next { t with ack := false } := by
  rw [step_of_fetch fetches awake, runFetched, run, retire_next]

/-- A step that acknowledges a one-byte opcode answers what that opcode answers. -/
theorem step_of_acknowledged {s t : State} (acks : s.acknowledges = true) (short : opLength s.intOpcode ≤ 1)
    (run : exec (slotInstr s) s.acknowledge = .next t) : step s = .next { t with ack := false } := by
  rw [step_of_acknowledge acks, runSlot, if_neg (Nat.not_lt.mpr short), State.beginAcknowledged_eq, run, retire_next]

theorem step_of_idle {s : State} (fetches : s.acknowledges = false) (halted : s.halted = true) : step s = .next s := by
  simp [step, stepFsm, fetches, halted]

theorem stepCycles_of_idle {s : State} (fetches : s.acknowledges = false) (halted : s.halted = true) :
    stepCycles s = some Config.haltIdleCycles := by
  simp [stepCycles, fetches, halted]

/-! ## The obligations about one step -/

/-- Settles O25: the bytes at PC decode to the fetched instruction, and the promotion changes no flag that its count reads. -/
theorem stepRunsFetched : Obligations.StepRunsFetched := by
  intro s i rest notAcked awake decoded
  have fetches : s.acknowledges = false := State.acknowledges_eq_false.mpr notAcked
  rw [decode_three, ← fetchInstr_eq] at decoded
  cases decoded
  obtain ⟨t, run⟩ := exec_next (fetchInstr s) s.beginFetched
  refine ⟨t, s.beginFetched_eq ▸ run, step_of_fetched fetches awake run, ?_⟩
  rw [stepCycles_of_fetch fetches awake, cycles_congr s.beginFetched_flags]

/-- Settles O26: the slot's opcode runs on the acknowledged state, whose `npc` is PC. -/
theorem stepAcknowledges : Obligations.StepAcknowledges := by
  intro s inte pending short
  have acks : s.acknowledges = true := State.acknowledges_eq_true.mpr ⟨inte, pending⟩
  obtain ⟨t, run⟩ := exec_next (slotInstr s) s.acknowledge
  refine ⟨t, run, step_of_acknowledged acks short.le run, fun _ => rfl, ?_⟩
  rw [stepCycles_of_acknowledge acks short.le, cycles_congr s.acknowledge_flags]
  rfl

/-- Settles O27: an idle step answers its own state, and so does every step after it. -/
theorem haltedStepIdles : Obligations.HaltedStepIdles := by
  intro s halted notAcked
  have fetches : s.acknowledges = false := State.acknowledges_eq_false.mpr notAcked
  have idle : step s = .next s := step_of_idle fetches halted
  refine ⟨idle, stepCycles_of_idle fetches halted, fun k => ?_⟩
  induction k with
  | zero => rfl
  | succ k ih => exact (core_run_succ idle k).trans ih

/-- Settles O28: every instruction answers a next state, so the check of the slot's length is the only refusal. -/
theorem stepRefusedExactly : Obligations.StepRefusedExactly := by
  intro s
  constructor
  · rintro ⟨inte, pending, long⟩
    have acks : s.acknowledges = true := State.acknowledges_eq_true.mpr ⟨inte, pending⟩
    rw [step_of_acknowledge acks, runSlot, if_pos long]
  · intro allowed
    cases acks : s.acknowledges with
    | true =>
      obtain ⟨inte, pending⟩ := State.acknowledges_eq_true.mp acks
      have short : opLength s.intOpcode ≤ 1 := Nat.not_lt.mp fun long => allowed ⟨inte, pending, long⟩
      obtain ⟨t, run⟩ := exec_next (slotInstr s) s.acknowledge
      exact ⟨_, step_of_acknowledged acks short run⟩
    | false =>
      cases halted : s.halted with
      | true => exact ⟨s, step_of_idle acks halted⟩
      | false =>
        obtain ⟨t, run⟩ := exec_next (fetchInstr s) s.beginFetched
        exact ⟨_, step_of_fetched acks halted run⟩

/-- A push reads and writes no control state, so it commutes with the acknowledge. -/
theorem State.acknowledge_push16 (s : State) (v : Word) : s.acknowledge.push16 v = (s.push16 v).acknowledge := by
  simp only [State.push16, State.writeByte_eq]
  rfl

/-- Settles O29: the slot's opcode is RST n, which pushes `npc`, the unchanged PC. -/
theorem restartFromSlot : Obligations.RestartFromSlot := by
  intro s n inte pending opcode
  have acks : s.acknowledges = true := State.acknowledges_eq_true.mpr ⟨inte, pending⟩
  have length : ∀ n : BitVec 3, opLength (0xC7 + 8 * n.setWidth 8) ≤ 1 := by decide
  have decoded : ∀ n : BitVec 3, decodeOp (0xC7 + 8 * n.setWidth 8) 0 0 = .rst n := by decide
  have slot : slotInstr s = .rst n := (congrArg (decodeOp · 0 0) opcode).trans (decoded n)
  have run : exec (slotInstr s) s.acknowledge = .next ((s.acknowledge.push16 s.pc).jump (restartTarget n)) := by
    rw [slot]
    rfl
  rw [step_of_acknowledged acks (opcode ▸ length n) run, State.acknowledge_push16]
  rfl

/-- Settles O30: an idle step stays halted and a fetched one does not start so; the acknowledge takes the request. -/
theorem onlyAcknowledgeWakes : Obligations.OnlyAcknowledgeWakes := by
  intro s u stepped asleep awake
  obtain ⟨acks, -, t, run, rfl⟩ | ⟨-, -, rfl⟩ | ⟨-, running, -⟩ := step_cases stepped
  · obtain ⟨inte, pending⟩ := State.acknowledges_eq_true.mp acks
    obtain ⟨taken, -⟩ := hostState_of_exec run
    exact ⟨inte, pending, taken⟩
  · rw [asleep] at awake
    cases awake
  · rw [asleep] at running
    cases running

/-- A step that does not acknowledge leaves a request pending exactly as it was. -/
theorem request_waits {s u : State} (fetches : s.acknowledges = false) (kept : u.intPending = s.intPending) :
    (u.intPending = true → s.intPending = true) ∧
    (s.intPending = true → (u.intPending = false ↔ s.inte = true)) := by
  rw [kept]
  refine ⟨id, fun pending => ?_⟩
  have disabled : s.inte ≠ true := fun inte => State.acknowledges_eq_false.mp fetches ⟨inte, pending⟩
  simp [pending, disabled]

/-- Settles O34: an acknowledge, which needs INTE and a request, takes the request; no other step touches it. -/
theorem hostOwnedState : Obligations.HostOwnedState := by
  intro s u stepped
  obtain ⟨opcode, rom, ioIn⟩ := step_keeps_host_state stepped
  refine ⟨opcode, rom, ioIn, ?_⟩
  obtain ⟨acks, -, t, run, rfl⟩ | ⟨fetches, -, rfl⟩ | ⟨fetches, -, t, run, rfl⟩ := step_cases stepped
  · obtain ⟨inte, pending⟩ := State.acknowledges_eq_true.mp acks
    obtain ⟨taken, -⟩ := hostState_of_exec run
    exact ⟨fun _ => pending, fun _ => ⟨fun _ => inte, fun _ => taken⟩⟩
  · exact request_waits fetches rfl
  · obtain ⟨kept, -⟩ := hostState_of_exec run
    exact request_waits fetches (kept.trans s.beginFetched_intPending)

/-! ## The delayed enable -/

/-- What a step at an EI leaves: the enable pending, PC at the next instruction (R252). -/
theorem step_of_ei {s : State} (fetches : s.acknowledges = false) (awake : s.halted = false) (opcode : s.readByte s.pc = 0xFB) :
    ∃ t, step s = .next t ∧ t.inte = (s.inte || s.eiPending) ∧ t.eiPending = true ∧ t.intPending = s.intPending ∧
      t.pc = s.pc + 1 ∧ t.halted = false := by
  have fetched : fetchInstr s = .ei := by rw [fetchInstr_eq, opcode]; rfl
  have run : exec (fetchInstr s) s.beginFetched = .next ({ s.beginFetched with eiPending := true }.advance 1) := by
    rw [fetched]
    rfl
  refine ⟨_, step_of_fetched fetches awake run, ?_⟩
  simp [State.npc, awake]

/-- Settles O31: the enable is pending after the EI, so the next step fetches; it promotes before its instruction runs, which then
keeps INTE unless it is DI, and has no enable pending unless it is EI. -/
theorem enableIsDelayed : Obligations.EnableIsDelayed := by
  intro s awake disabled noEnable opcode
  have fetches : s.acknowledges = false := by simp [State.acknowledges, disabled]
  obtain ⟨t, stepped, inte, pending, request, pc, awakeNext⟩ := step_of_ei fetches awake opcode
  have disabledNext : t.inte = false := by simp [inte, disabled, noEnable]
  have fetchesNext : t.acknowledges = false := by simp [State.acknowledges, disabledNext]
  have enabled : t.beginFetched.inte = true := by simp [pending]
  obtain ⟨u, run⟩ := exec_next (fetchInstr t) t.beginFetched
  obtain ⟨requestKept, -⟩ := hostState_of_exec run
  refine ⟨t, _, stepped, disabledNext, pending, request, pc, step_of_fetched fetchesNext awakeNext run,
    requestKept.trans (t.beginFetched_intPending.trans request), ?di, ?ei, ?other⟩
  case di =>
    intro fetched
    rw [fetched] at run
    cases run
    exact ⟨rfl, rfl⟩
  case ei =>
    intro fetched
    rw [fetched] at run
    cases run
    exact ⟨enabled, rfl⟩
  case other =>
    intro notDi notEi
    exact ⟨(inte_of_exec run notDi).trans enabled, (eiPending_of_exec run notDi notEi).trans t.beginFetched_eiPending⟩

/-! ## Zero memory -/

/-- Over zero memory a step is a NOP (R250). -/
theorem fetchInstr_of_zero {s : State} (zero : ∀ x, s.readByte x = 0) : fetchInstr s = .nop := by
  rw [fetchInstr_eq, zero]
  rfl

theorem step_of_zero {s : State} (zero : ∀ x, s.readByte x = 0) (awake : s.halted = false) (disabled : s.inte = false)
    (noEnable : s.eiPending = false) (unacked : s.ack = false) : step s = .next { s with pc := s.pc + 1 } := by
  have fetches : s.acknowledges = false := by simp [State.acknowledges, disabled]
  have begun : s.beginFetched = s := by
    cases s
    simp_all [State.beginFetched_eq]
  have run : exec (fetchInstr s) s.beginFetched = .next (s.advance 1) := by
    rw [fetchInstr_of_zero zero, begun]
    rfl
  rw [step_of_fetched fetches awake run, State.advance, State.npc, unacked]
  rfl

/-- One address on and then `n` more are `n + 1` on. -/
theorem add_one_add_ofNat (x : Word) (n : Nat) : x + 1 + BitVec.ofNat 16 n = x + BitVec.ofNat 16 (n + 1) := by
  rw [Nat.add_comm n 1, BitVec.ofNat_add, BitVec.add_assoc]
  rfl

/-- `k` NOPs over zero memory change PC alone, by `k` mod 2^16. -/
theorem run_of_zero (k : Nat) {s : State} (zero : ∀ x, s.readByte x = 0) (awake : s.halted = false) (disabled : s.inte = false)
    (noEnable : s.eiPending = false) (unacked : s.ack = false) :
    Sys2Proof.core.run k s = .next { s with pc := s.pc + BitVec.ofNat 16 k } := by
  induction k generalizing s with
  | zero => exact congrArg (fun pc => Host.Outcome.next { s with pc := pc }) (BitVec.add_zero s.pc).symm
  | succ k ih =>
    calc Sys2Proof.core.run (k + 1) s = Sys2Proof.core.run k { s with pc := s.pc + 1 } :=
          core_run_succ (step_of_zero zero awake disabled noEnable unacked) k
      _ = .next { s with pc := s.pc + 1 + BitVec.ofNat 16 k } :=
          ih (s := { s with pc := s.pc + 1 }) zero awake disabled noEnable unacked
      _ = .next { s with pc := s.pc + BitVec.ofNat 16 (k + 1) } := by rw [add_one_add_ofNat]

/-- Settles O33: a run of NOPs, which reset starts too. -/
theorem zeroMemoryRunsNops : Obligations.ZeroMemoryRunsNops := by
  constructor
  · intro s k zero awake disabled noEnable unacked
    have fetches : s.acknowledges = false := by simp [State.acknowledges, disabled]
    refine ⟨run_of_zero k zero awake disabled noEnable unacked, ?_⟩
    rw [stepCycles_of_fetch fetches awake, fetchInstr_of_zero zero]
    rfl
  · intro k
    rw [run_of_zero k (fun _ => rfl) rfl rfl rfl rfl]
    exact congrArg (fun pc => Host.Outcome.next { State.reset with pc := pc }) (BitVec.zero_add _)

/-! ## The count -/

/-- The cycle table's range (R353). -/
theorem cycles_bounds (i : Instr) (s : State) : 4 ≤ cycles i s ∧ cycles i s ≤ 18 := by
  cases i with
  | mov => simp only [cycles]; split <;> decide
  | mvi | add | adc | sub | sbb | ana | xra | ora | cmp | inr | dcr => simp only [cycles, cyclesM]; split <;> decide
  | cnz | cz | cnc | cc | cpo | cpe | cp | cm | rnz | rz | rnc | rc | rpo | rpe | rp | rm =>
    simp only [cycles, cyclesCond]
    split <;> decide
  | _ => simp [cycles]

theorem count_bounds (i : Instr) (s : State) :
    4 ≤ (BitVec.ofNat 32 (cycles i s)).toNat ∧ (BitVec.ofNat 32 (cycles i s)).toNat ≤ 18 := by
  obtain ⟨low, high⟩ := cycles_bounds i s
  rw [BitVec.toNat_ofNat, Nat.mod_eq_of_lt (by omega)]
  exact ⟨low, high⟩

theorem stepReport_of_next {s u : State} {n : BitVec 32} (stepped : step s = .next u) (count : stepCycles s = some n) :
    stepReport s = .next (u, n) := by
  rw [stepReport, stepped, count]
  rfl

/-- Settles O35: each kind of step has its count, and all but the idle one take it from the cycle table. -/
theorem stepReportsCycles : Obligations.StepReportsCycles := by
  intro s u stepped
  obtain ⟨acks, short, -⟩ | ⟨fetches, halted, -⟩ | ⟨fetches, awake, -⟩ := step_cases stepped
  · have count := stepCycles_of_acknowledge acks short
    exact ⟨_, count, stepReport_of_next stepped count, fun _ => count_bounds _ _⟩
  · have count := stepCycles_of_idle fetches halted
    refine ⟨_, count, stepReport_of_next stepped count, ?_⟩
    rintro (awake | acks)
    · rw [halted] at awake
      cases awake
    · exact absurd acks (State.acknowledges_eq_false.mp fetches)
  · have count := stepCycles_of_fetch fetches awake
    exact ⟨_, count, stepReport_of_next stepped count, fun _ => count_bounds _ _⟩

end Sys2Proof.Machine
end

section
/-! Register pairs, the flag byte, memory access and the host's operations (10_state.md sections 1 and 3; 20_memory.md). -/

namespace Sys2Proof.Machine

/-! ## Pairs and the flag byte -/

theorem hiByte_eq_ofNat (v : Word) : hiByte v = BitVec.ofNat 8 (v.toNat / 256) := by
  apply BitVec.eq_of_toNat_eq
  have hv := v.isLt
  rw [hiByte_toNat, BitVec.toNat_ofNat]
  omega

theorem loByte_eq_ofNat (v : Word) : loByte v = BitVec.ofNat 8 v.toNat := by
  apply BitVec.eq_of_toNat_eq
  rw [loByte_toNat, BitVec.toNat_ofNat]

/-- A pair written reads back: the two bytes of the word make it again. -/
theorem State.getRP_setRP (s : State) (rp : RP) (v : Word) : (s.setRP rp v).getRP rp = v := by
  cases rp with
  | sp => rfl
  | bc | de | hl => exact joinBytes_hi_lo v

/-- Settles O7: the code tables are finite, a pair is its registers joined, and a write cuts the word into its two bytes. -/
theorem pairCodeViews : Obligations.PairCodeViews := by
  refine ⟨by decide, by decide, joinBytes_toNat, fun s v => ?_⟩
  rw [← hiByte_eq_ofNat, ← loByte_eq_ofNat]
  exact ⟨rfl, rfl, rfl, rfl, rfl, rfl, rfl, rfl, fun rp => s.getRP_setRP rp v⟩

/-- The layout S Z 0 A 0 P 1 C by its bits (R19): the sum's terms are powers of two, 5, 3 and 1 missing or fixed. -/
theorem flagByte_bits (f : Flags) :
    (flagByte f).toNat = 128 * f.s.toNat + 64 * f.z.toNat + 16 * f.a.toNat + 4 * f.p.toNat + 2 + f.c.toNat ∧
    (flagByte f).getLsbD 5 = false ∧ (flagByte f).getLsbD 3 = false ∧ (flagByte f).getLsbD 1 = true ∧
    setFlagByte (flagByte f) = f := by
  obtain ⟨s, z, a, p, c⟩ := f
  revert s z a p c
  decide

/-- Reading a byte into the flags and writing it out again fixes bits 5, 3 and 1 (R19). -/
theorem flagByte_setFlagByte (v : Byte) : flagByte (setFlagByte v) = (v &&& 0xD5) ||| 0x02 := by
  induction v using bitvec_cases with
  | h k below => interval_cases k <;> rfl

/-- Settles O8: the thirty-two flag settings, the bits SetFlagByte names, and every byte. -/
theorem flagByteLayout : Obligations.FlagByteLayout :=
  ⟨flagByte_bits, fun v => ⟨rfl, rfl, rfl, rfl, rfl, flagByte_setFlagByte v⟩, fun _ => rfl⟩

/-! ## Memory -/

theorem State.inRom_of_mem {s : State} {w : RomWindow} (set : s.rom = some w) {x : Word} (low : w.lo ≤ x) (high : x ≤ w.hi) :
    s.inRom x = true := by
  simp [State.inRom, set, low, high]

theorem State.inRom_of_outside {s : State} {x : Word} (outside : ∀ w, s.rom = some w → x < w.lo ∨ w.hi < x) :
    s.inRom x = false := by
  unfold State.inRom
  split
  next => rfl
  next w set =>
    obtain below | above := outside w set
    · simp [BitVec.not_le.mpr below]
    · simp [BitVec.not_le.mpr above]

/-- A byte write changes memory alone. -/
theorem State.writeByte_with_mem (s : State) (x : Word) (v : Byte) : { s.writeByte x v with mem := s.mem } = s := by
  rw [State.writeByte_eq]

theorem State.writeWord_with_mem (s : State) (x v : Word) : { s.writeWord x v with mem := s.mem } = s := by
  rw [State.writeWord, State.writeByte_eq, State.writeByte_eq]

/-- Settles O12: inside the closed window the write is discarded, outside it the byte is read back where it was written. -/
theorem writeThenRead : Obligations.WriteThenRead := by
  intro s x v
  refine ⟨fun w set low high => State.writeByte_of_inRom (State.inRom_of_mem set low high) v, fun outside => ?_⟩
  have writable : s.inRom x = false := State.inRom_of_outside outside
  refine ⟨s.writeByte_with_mem x v, fun y => ?_⟩
  rw [State.readByte_writeByte, writable]
  exact if_congr ((and_iff_left rfl).trans eq_comm) rfl rfl

theorem State.readWord_toNat (s : State) (x : Word) :
    (s.readWord x).toNat = (s.readByte x).toNat + 256 * (s.readByte (x + 1)).toNat := by
  rw [State.readWord, joinBytes_toNat, Nat.add_comm]

theorem add_one_ne (x : Word) : x + 1 ≠ x := by
  bv_omega

/-- What every byte reads after a word write. -/
theorem State.readByte_writeWord (s : State) (x v y : Word) :
    (s.writeWord x v).readByte y =
      if y = x ∧ s.inRom x = false then loByte v
      else if y = x + 1 ∧ s.inRom (x + 1) = false then hiByte v
      else s.readByte y := by
  rw [State.writeWord, State.readByte_writeByte, State.readByte_writeByte, State.writeByte_inRom]
  simp only [@eq_comm _ _ y]
  by_cases low : y = x
  · have notHigh : ¬(y = x + 1 ∧ s.inRom (x + 1) = false) := fun high => add_one_ne x (high.1.symm.trans low)
    simp only [if_neg notHigh]
  · have notLow : ¬(y = x ∧ s.inRom x = false) := fun here => low here.1
    simp only [if_neg notLow]

theorem State.readWord_writeWord {s : State} {x : Word} (low : s.inRom x = false) (high : s.inRom (x + 1) = false) (v : Word) :
    (s.writeWord x v).readWord x = v := by
  rw [State.readWord, State.readByte_writeWord, State.readByte_writeWord, 
    if_neg fun here => add_one_ne x here.1, if_pos ⟨rfl, high⟩, if_pos ⟨rfl, low⟩, joinBytes_hi_lo]

/-- Settles O13: a word is its two bytes joined, and the two addresses of a word write are different. -/
theorem wordIsTwoBytes : Obligations.WordIsTwoBytes := by
  intro s x v
  rw [← hiByte_eq_ofNat, ← loByte_eq_ofNat]
  exact ⟨s.readWord_toNat x, s.writeWord_with_mem x v, s.readByte_writeWord x v,
    fun low high => State.readWord_writeWord low high v⟩

/-! ## The host -/

/-- Loading two stretches one after another is loading them joined. -/
theorem Memory.load_append (m : Memory) (x : Word) (front back : List Byte) :
    m.load x (front ++ back) = (m.load x front).load (x + BitVec.ofNat 16 front.length) back := by
  induction front generalizing m x with
  | nil => rw [List.nil_append, List.length_nil, BitVec.add_zero]; rfl
  | cons v front ih =>
    rw [List.length_cons, ← add_one_add_ofNat]
    exact ih (m.write x v) (x + 1)

/-- Settles O59: the load is a recursion along its bytes, the window check is `writeByte`'s, and the bounds decide the refusal. -/
theorem hostMemoryAccess : Obligations.HostMemoryAccess := by
  intro s x v
  refine ⟨fun y => ?load, fun front back => ?append, fun _ => rfl, fun inside => State.writeByte_of_inRom inside v,
    fun hi ordered => if_neg (BitVec.not_lt.mpr ordered), fun hi reversed => if_pos reversed, rfl⟩
  case load => exact (Memory.read_write s.mem x y v).trans (if_congr eq_comm rfl rfl)
  case append => exact congrArg (fun m => { s with mem := m }) (Memory.load_append s.mem x front back)

/-- Settles O60: the accessors are the core's own, and a latch operation reads back by the cell rules. -/
theorem hostOperations : Obligations.HostOperations := by
  intro s x v n op port r rp on f
  refine ⟨rfl, rfl, rfl, ?writeWord, rfl, rfl, rfl, rfl, rfl, rfl, rfl, rfl, rfl, rfl, rfl, rfl, rfl, rfl,
    rfl, fun q => ?setIn, rfl, fun q => ?clearIn, rfl, fun q => ?setOut, rfl, fun q => ?clearOut⟩
  case writeWord => rw [← loByte_eq_setWidth, ← hiByte_eq_setWidth]; rfl
  case setIn => exact (s.ioIn.get_set port q n).trans (if_congr eq_comm rfl rfl)
  case clearIn => exact (s.ioIn.get_clear port q).trans (if_congr eq_comm rfl rfl)
  case setOut => exact (s.ioOut.get_set port q n).trans (if_congr eq_comm rfl rfl)
  case clearOut => exact (s.ioOut.get_clear port q).trans (if_congr eq_comm rfl rfl)

/-- Settles O24: the reset state written out; its memory and latches list nothing. -/
theorem resetState : Obligations.ResetState :=
  ⟨rfl, rfl, rfl, rfl, rfl, rfl, rfl, rfl, rfl, rfl, rfl, rfl, rfl, rfl, rfl, rfl, rfl, fun _ => rfl, fun _ => ⟨rfl, rfl⟩⟩

end Sys2Proof.Machine
end

section
/-! The stack (45_stack.md), pair arithmetic, the miscellaneous and the undocumented opcodes (47_misc.md), and the disassembler's
examples (48_disassembler.md). -/

namespace Sys2Proof.Machine

/-! ## The stack (45_stack.md) -/

/-- A push moves SP and writes memory (R230). -/
theorem State.push16_eq (s : State) (v : Word) : s.push16 v = { s with sp := s.sp - 2, mem := (s.push16 v).mem } := by
  simp only [State.push16, State.writeByte_eq]

theorem State.advance_push16 (s : State) (v : Word) (len : Nat) :
    (s.push16 v).advance len = { s.push16 v with pc := s.npc len } :=
  State.advance_eq (s.push16_pc v) (s.push16_ack v) len

theorem State.readByte_push16_low {s : State} {x : Word} (slot : s.sp - 2 = x) (writable : s.inRom x = false) (v : Word) :
    (s.push16 v).readByte x = loByte v := by
  subst slot
  rw [State.push16, State.readByte_writeByte]
  exact if_pos ⟨rfl, (State.writeByte_inRom _ _ _ _).trans writable⟩

theorem State.readByte_push16_high {s : State} {x : Word} (slot : s.sp - 2 = x) (writable : s.inRom (x + 1) = false) (v : Word) :
    (s.push16 v).readByte (x + 1) = hiByte v := by
  subst slot
  have apart : s.sp - 2 ≠ s.sp - 2 + 1 := (add_one_ne _).symm
  rw [State.push16, State.readByte_writeByte, if_neg fun here => apart here.1, State.readByte_writeByte]
  exact if_pos ⟨rfl, writable⟩

/-- A word pushed is the word on top, where both its bytes are writable. -/
theorem State.stackTop_push16 {s : State} (low : s.inRom (s.sp - 2) = false) (high : s.inRom (s.sp - 1) = false) (v : Word) :
    (s.push16 v).stackTop = v := by
  have above : s.sp - 1 = s.sp - 2 + 1 := by bv_omega
  rw [State.stackTop, State.readWord, State.push16_sp, State.readByte_push16_low rfl low,
    State.readByte_push16_high rfl (above ▸ high), joinBytes_hi_lo]

/-- A push and a drop leave SP where it was. -/
theorem State.dropTop_push16 (s : State) (v : Word) : (s.push16 v).dropTop = { s with mem := (s.push16 v).mem } := by
  have sp : s.sp - 2 + 2 = s.sp := BitVec.sub_add_cancel s.sp 2
  rw [State.dropTop, State.push16_sp, sp]
  exact congrArg (fun t : State => { t with sp := s.sp }) (s.push16_eq v)

theorem State.hiByte_stackTop (s : State) : hiByte s.stackTop = s.readByte (s.sp + 1) := hiByte_joinBytes _ _

theorem State.loByte_stackTop (s : State) : loByte s.stackTop = s.readByte s.sp := loByte_joinBytes _ _

/-- A stack pair loaded with its own value, PSW's flag byte included, changes nothing. -/
theorem State.setStackRP_getStackRP (s : State) (rp : StackRP) : s.setStackRP rp (s.getStackRP rp) = s := by
  obtain ⟨-, -, -, -, flags⟩ := flagByte_bits s.flags
  cases rp <;> simp [State.setStackRP, State.getStackRP, flags]

/-- Settles O52: PUSH by the state its push leaves, POP by the two bytes of the word on top. -/
theorem pushAndPop : Obligations.PushAndPop := by
  intro s
  refine ⟨fun v => ?push16, ?pushBC, ?pushDE, ?pushHL, ?pushPSW, ?popBC, ?popDE, ?popHL, ?popPSW⟩
  case push16 => rw [← hiByte_eq_setWidth, ← loByte_eq_setWidth]; rfl
  case pushBC => exact ⟨rfl, congrArg Host.Outcome.next (s.advance_push16 _ 1), rfl⟩
  case pushDE => exact ⟨rfl, congrArg Host.Outcome.next (s.advance_push16 _ 1), rfl⟩
  case pushHL => exact ⟨rfl, congrArg Host.Outcome.next (s.advance_push16 _ 1), rfl⟩
  case pushPSW => exact ⟨rfl, congrArg Host.Outcome.next (s.advance_push16 _ 1), rfl⟩
  all_goals
    rw [← State.hiByte_stackTop, ← State.loByte_stackTop]
    exact ⟨rfl, rfl, rfl⟩

/-- PUSH and then POP of one pair: memory and PC alone have changed. -/
theorem exec_pop_of_push {s t : State} {rp : StackRP} (low : s.inRom (s.sp - 2) = false) (high : s.inRom (s.sp - 1) = false)
    (pushed : t = (s.push16 (s.getStackRP rp)).advance 1) :
    exec (.pop rp) t = .next ({ s with mem := t.mem, pc := t.pc }.advance 1) := by
  have top : t.stackTop = s.getStackRP rp := by
    rw [pushed]
    exact State.stackTop_push16 low high _
  have dropped : t.dropTop = { s with mem := t.mem, pc := t.pc } := by
    rw [pushed]
    exact congrArg (State.jump · _) (s.dropTop_push16 (s.getStackRP rp))
  change Host.Outcome.next ((t.dropTop.setStackRP rp t.stackTop).advance 1) = _
  rw [top, dropped]
  exact congrArg (fun u => Host.Outcome.next (State.advance u 1))
    (State.setStackRP_getStackRP { s with mem := t.mem, pc := t.pc } rp)

/-- The word that POP PSW leaves for PUSH PSW: A as popped, the flag byte with bits 5, 3 and 1 fixed (R234). -/
theorem getStackRP_of_pop_psw {s t : State} (popped : t = (s.dropTop.setStackRP .psw s.stackTop).advance 1) :
    t.getStackRP .psw = joinBytes (s.readByte (s.sp + 1)) ((s.readByte s.sp &&& 0xD5) ||| 0x02) := by
  have word : t.getStackRP .psw = joinBytes (hiByte s.stackTop) (flagByte (setFlagByte (loByte s.stackTop))) := by
    rw [popped]
    rfl
  rw [word, flagByte_setFlagByte, State.hiByte_stackTop, State.loByte_stackTop]

/-- Settles O53: the popped word is the pushed one, and PSW's flag byte loses its ignored bits on the way. -/
theorem pushPopRoundTrip : Obligations.PushPopRoundTrip := by
  constructor
  · intro s rp low high
    exact ⟨_, _, rfl, exec_pop_of_push low high rfl, rfl⟩
  · intro s low high
    obtain ⟨t, popped⟩ : ∃ t, t = (s.dropTop.setStackRP .psw s.stackTop).advance 1 := ⟨_, rfl⟩
    have word := getStackRP_of_pop_psw popped
    have rom : t.rom = s.rom := by simp [popped]
    have slot : t.sp - 2 = s.sp := by simp [popped]
    have lowWritable : t.inRom s.sp = false := (State.inRom_congr rom _).trans low
    have highWritable : t.inRom (s.sp + 1) = false := (State.inRom_congr rom _).trans high
    refine ⟨t, (t.push16 (t.getStackRP .psw)).advance 1, congrArg Host.Outcome.next popped.symm, rfl, ?sp, ?low, ?high⟩
    case sp => exact (t.push16_sp _).trans slot
    case low => exact (State.readByte_push16_low slot lowWritable _).trans (by rw [word, loByte_joinBytes])
    case high => exact (State.readByte_push16_high slot highWritable _).trans (by rw [word, hiByte_joinBytes])

/-- Settles O54: RET pops the word that CALL pushed, which is `npc`. -/
theorem callRetRoundTrip : Obligations.CallRetRoundTrip := by
  intro s addr low high
  refine ⟨s.callTo 3 addr, (s.callTo 3 addr).returnTo, rfl, rfl, rfl, ?pc, ?sp⟩
  case pc => exact State.stackTop_push16 low high (s.npc 3)
  case sp => rw [State.returnTo_sp, State.callTo_sp, BitVec.sub_add_cancel]

/-! ## Pair arithmetic (42_arithmetic_logic.md section 3) -/

/-- `00pp1001`, `00pp0011` and `00pp1011` as sums (R77). -/
theorem encode_dad (rp : RP) : encode (.dad rp) = [0x09 + 16 * rp.code.setWidth 8] := by cases rp <;> rfl

theorem encode_inx (rp : RP) : encode (.inx rp) = [0x03 + 16 * rp.code.setWidth 8] := by cases rp <;> rfl

theorem encode_dcx (rp : RP) : encode (.dcx rp) = [0x0B + 16 * rp.code.setWidth 8] := by cases rp <;> rfl

/-- Settles O44: DAD by its exact sum cut to a word, INX and DCX by the pair write. -/
theorem pairArithmetic : Obligations.PairArithmetic := by
  intro rp s
  refine ⟨⟨encode_dad rp, ?dad, rfl⟩, ⟨encode_inx rp, ?inx, rfl⟩, ⟨encode_dcx rp, ?dcx, rfl⟩⟩
  case dad => rw [BitVec.add_def]; rfl
  case inx => exact congrArg Host.Outcome.next (s.advance_setRP rp _ 1)
  case dcx => exact congrArg Host.Outcome.next (s.advance_setRP rp _ 1)

/-! ## Miscellaneous and undocumented opcodes (47_misc.md) -/

/-- Settles O51: each has the meaning of the documented opcode it runs as, and its own bit pattern, as a sum (R85). -/
theorem undocumentedAliases : Obligations.UndocumentedAliases := by
  intro k j addr s
  have nopOpcode : ∀ k : BitVec 3, 0b00#2 ++ k ++ 0b000#3 = 8 * k.setWidth 8 := by decide
  have callOpcode : ∀ j : BitVec 2, 0b11#2 ++ j ++ 0b1101#4 = 0xCD + 16 * j.setWidth 8 := by decide
  refine ⟨?nop, ?jmp, ?ret, ?call⟩
  case nop => exact ⟨congrArg (fun op => [op]) (nopOpcode k), rfl, rfl⟩
  case jmp => exact ⟨withWord_eq _ addr, rfl, rfl⟩
  case ret => exact ⟨rfl, rfl, rfl⟩
  case call => exact ⟨(congrArg (withWord · addr) (callOpcode j)).trans (withWord_eq _ addr), rfl, rfl⟩

theorem not_eq_sub (v : Byte) : ~~~v = 255 - v := by bv_omega

/-- Settles O56: each changes one element and PC. -/
theorem miscellaneous : Obligations.Miscellaneous := by
  intro s
  refine ⟨?nop, ?ei, ?cma, ?stc, ?cmc⟩
  case cma =>
    rw [← not_eq_sub]
    exact ⟨rfl, rfl, rfl⟩
  all_goals exact ⟨rfl, rfl, rfl⟩

/-- Settles O57: HLT leaves PC alone, DI ends with `npc`. -/
theorem haltAndDisable : Obligations.HaltAndDisable := fun _ => ⟨⟨rfl, rfl, rfl⟩, ⟨rfl, rfl, rfl⟩⟩

/-! ## The disassembler (48_disassembler.md) -/

/-- Settles O58: the rows are evaluated; text and length come from the opcode and the bytes its length asks for. -/
theorem disassembly : Obligations.Disassembly := by
  refine ⟨rfl, rfl, rfl, rfl, fun _ _ => rfl, rfl, rfl, rfl, rfl, rfl, rfl, rfl, rfl, rfl, rfl, fun op x y x' y' => ?_⟩
  refine ⟨?one, ?two⟩
  case one =>
    intro one
    rw [disassemble, disassemble, decodeOp_of_length_one one, decodeOp_of_length_one one x']
  case two =>
    intro two
    rw [disassemble, disassemble, decodeOp_of_length_two two, decodeOp_of_length_two two x y']

end Sys2Proof.Machine
end
